-- ==== Sys2Proof/Word.lean ====
section
/-!
DEFINITION. The word types and the two fixed-size collections of the model.

Volumes, counts, ticks and numbers of objects are Nat (Int where the manual says signed); a BitVec
stands where the manual treats a thing as bits: bytes on a link, parameter words, the check register.
-/

namespace Sys2Proof

/-- A byte of a console access, a frame, a tag message or a notice payload. -/
abbrev Byte := BitVec 8

/-- A two-byte field (R183). -/
abbrev Half := BitVec 16

/-- A four-byte field (R183). -/
abbrev Word := BitVec 32

/-- Four like things, one for each hose or tank 0 to 3. -/
structure Quad (α : Type) where
  q0 : α
  q1 : α
  q2 : α
  q3 : α
deriving DecidableEq, Repr

namespace Quad

/-- The four places all hold `x`. -/
def all {α : Type} (x : α) : Quad α := ⟨x, x, x, x⟩

/-- The thing of number `i`. -/
def get {α : Type} (q : Quad α) (i : Fin 4) : α :=
  match i with
  | 0 => q.q0
  | 1 => q.q1
  | 2 => q.q2
  | 3 => q.q3

/-- `q` with the thing of number `i` replaced by `x`. -/
def set {α : Type} (q : Quad α) (i : Fin 4) (x : α) : Quad α :=
  match i with
  | 0 => { q with q0 := x }
  | 1 => { q with q1 := x }
  | 2 => { q with q2 := x }
  | 3 => { q with q3 := x }

/-- `f` applied in all four places. -/
def map {α β : Type} (q : Quad α) (f : α → β) : Quad β := ⟨f q.q0, f q.q1, f q.q2, f q.q3⟩

/-- The four things in ascending number. -/
def toList {α : Type} (q : Quad α) : List α := [q.q0, q.q1, q.q2, q.q3]

end Quad

/-- Eight like things, one for each vehicle class 0 to 7. -/
structure Oct (α : Type) where
  lo : Quad α
  hi : Quad α
deriving DecidableEq, Repr

namespace Oct

/-- The eight places all hold `x`. -/
def all {α : Type} (x : α) : Oct α := ⟨Quad.all x, Quad.all x⟩

/-- The thing of number `i`. -/
def get {α : Type} (o : Oct α) (i : Fin 8) : α :=
  match i with
  | 0 => o.lo.q0
  | 1 => o.lo.q1
  | 2 => o.lo.q2
  | 3 => o.lo.q3
  | 4 => o.hi.q0
  | 5 => o.hi.q1
  | 6 => o.hi.q2
  | 7 => o.hi.q3

/-- `o` with the thing of number `i` replaced by `x`. -/
def set {α : Type} (o : Oct α) (i : Fin 8) (x : α) : Oct α :=
  match i with
  | 0 => { o with lo := { o.lo with q0 := x } }
  | 1 => { o with lo := { o.lo with q1 := x } }
  | 2 => { o with lo := { o.lo with q2 := x } }
  | 3 => { o with lo := { o.lo with q3 := x } }
  | 4 => { o with hi := { o.hi with q0 := x } }
  | 5 => { o with hi := { o.hi with q1 := x } }
  | 6 => { o with hi := { o.hi with q2 := x } }
  | 7 => { o with hi := { o.hi with q3 := x } }

/-- `f` applied in all eight places. -/
def map {α β : Type} (o : Oct α) (f : α → β) : Oct β := ⟨o.lo.map f, o.hi.map f⟩

/-- The eight things in ascending number. -/
def toList {α : Type} (o : Oct α) : List α := o.lo.toList ++ o.hi.toList

end Oct

end Sys2Proof
end

