-- ==== Sys2Proof/Syntax.lean ====
section
/-!
DEFINITION. The commands of the block: one constructor of `Instr` per row of spec/opcode_table.json.

The table gives no row an operand or a bit. The operands below are what each row's rule needs from
outside the part (log 2). Parameters of console commands are the raw bytes the host writes, since the
part tests them (R168, R178); numbers of hoses in the part's own events are hose numbers.
-/

namespace Sys2Proof

/-- A hose, 0 to 3. -/
abbrev HoseId := Fin 4

/-- A tank, 0 to 3. -/
abbrev TankId := Fin 4

/-- A vehicle class, 0 to 7. -/
abbrev ClassId := Fin 8

/-- The two yard ports (Chapter 8). -/
inductive PortId where
  | a
  | b
deriving DecidableEq, Repr

/-- What the three-level valve coil sense input reports (R10). -/
inductive CoilSense where
  | good
  | openCoil
  | shortCoil
deriving DecidableEq, Repr

/-- One byte from a tag reader as its 11 bits were sampled (R50): the level of the start bit, the levels of
its eight data bits in the order they came, the parity bit and the stop bit; and whether a gap of 10 ms or
more came before it (log 36). High is `true`. -/
structure TagByte where
  start : Bool
  levels : Oct Bool
  parity : Bool
  stop : Bool
  gapBefore : Bool
deriving DecidableEq, Repr

/-- One byte from the modem (R139, R142): the levels of its eight data bits in the order they came,
whether its stop bit was high, and whether a gap of more than 5 ms came before it. High is `true`. -/
structure LineByte where
  levels : Oct Bool
  stopHigh : Bool
  gapBefore : Bool
deriving DecidableEq, Repr

/-- The commands. `coils` gives the level of every coil sense input during the event, for the events
in which the valve coil check of R10 may fall (log 6). `mosi` gives the bits that the host shifts in during
one access on the console lines: a data write, or a status read, which the table has no row for (log 5). -/
inductive Instr where
  -- reset and configuration
  | powerOnReset
  | setStation (item : Byte) (value : Word)
  | setClass (index item : Byte) (value : Word)
  | setHose (index item : Byte) (value : Word)
  | setTank (index item : Byte) (value : Word)
  | start
  | restart
  -- console commands
  | enrolVehicle (vehicle : Half) (cls : Byte)
  | retireVehicle (vehicle : Half)
  | setPreset (hose : Byte) (litres : Half)
  | manualAuthorise (hose : Byte) (vehicle : Half) (coils : Quad CoilSense)
  | stopHose (hose : Byte)
  | returnHose (hose : Byte)
  | openShift
  | recordService (vehicle : Half) (presence : Byte) (hours : Word)
  | recordDelivery (tank : Byte) (volume : Word)
  | reopenTank (tank : Byte) (opening : Word)
  | reportGauge (tank : Byte) (volume : Word)
  | soundAlert (tenths : Byte)
  | readStation
  | readHose (hose : Byte)
  | readVehicle (vehicle : Half)
  | readTank (tank : Byte)
  | readCounters (group : Byte)
  | fetchEvent
  | badCommand (code : Byte)
  -- console accesses
  | dataWrite (mosi : List Bool) (coils : Quad CoilSense)
  | dataRead
  -- nozzle switch and hose timers
  | switchInitialLevel (hose : HoseId) (lifted : Bool)
  | lift (hose : HoseId)
  | hangUp (hose : HoseId)
  | liftTimeout (hose : HoseId)
  | holdQueued (hose : HoseId) (coils : Quad CoilSense)
  | queueWaitExpiry (hose : HoseId)
  | settleExpiry (hose : HoseId) (coil : CoilSense)
  -- metering
  | phaseChange (hose : HoseId) (chA chB : Bool)
  | flowWindowEnd (hose : HoseId) (sample : Int)
  | noFlowExpiry (hose : HoseId)
  | durationExpiry (hose : HoseId)
  | serviceLampExpiry (hose : HoseId)
  | tagReturnExpiry (hose : HoseId)
  | afterFlowExpiry (hose : HoseId)
  | issueQueued (port : PortId)
  -- tag link
  | identityPage (hose : HoseId) (vehicle : Half) (cls : ClassId) (toggle : Bool) (coils : Quad CoilSense)
  | hoursPage (hose : HoseId) (toggle : Bool) (hours : Word)
  | tagMessageDiscard (hose : HoseId) (byte : TagByte)
  | gapTimeout (hose : HoseId)
  | tagOverrun (hose : HoseId)
  | breakStart (hose : HoseId)
  | breakEnd (hose : HoseId)
  | tagWatchExpiry (hose : HoseId)
  | lampCommandSend (hose : HoseId)
  | lampCommandComplete (hose : HoseId)
  | lampCommandDropped (hose : HoseId)
  -- bay alert
  | alertPatternEnd
  -- yard ports
  | frameAttempt
  | contentionLost
  | transmitFailure (coils : Quad CoilSense)
  | noIdleTimeout (coils : Quad CoilSense)
  | portAFrameComplete (coils : Quad CoilSense)
  | recoveryExpiry
  | portAFrameReceived (bits : List Bool) (coils : Quad CoilSense)
  | portBFrameStart
  | portBFrameSent (coils : Quad CoilSense)
  | ctsFall
  | ctsRise
  | stallExpiry (coils : Quad CoilSense)
  | portBFrameReceived (bytes : List LineByte) (coils : Quad CoilSense)
  | silenceExpiry (port : PortId)
  -- merging
  | holdMerge (port : PortId)
  | rollcallMerge (port : PortId)
  | shiftMerge (port : PortId)
  | serviceMerge (port : PortId)
  | issueMerge (port : PortId)
  | stateMerge (port : PortId)
  | stockMerge (port : PortId)
  -- holds, walker, and the rows the table ends with
  | holdRefresh (hose : HoseId)
  | holdExpiry (station : Nat) (hose : HoseId)
  | walkerStep
  | tagByteReceived (hose : HoseId) (byte : TagByte)
  | nonNoticeFrameMerge (port : PortId)
  | tick
deriving DecidableEq, Repr

end Sys2Proof
end

