-- ==== Sys2Proof/Decode.lean ====
section
/-!
DEFINITION. The commands that a word of the opcode table spells. No row of the table has bits, so no word
spells a command (log 29).
-/

namespace Sys2Proof

/-- The command of a word; none for every word, since no row of the table gives bits. -/
def decodeTableWord (_nbits _w : Nat) : Option Instr := none

end Sys2Proof
end

