-- ==== Sys2Proof/Config.lean ====
section
/-!
DEFINITION. The free values: what the manual leaves open and each part may decide.

The station's own parameters are not here: they are state (R177), written by the Set commands.
-/

namespace Sys2Proof

/-- The four bytes that stand for a volume above 4,294,967,295 cL where no rule holds the volume at
a limit (the late volume of R21 and R45, the held amount of R98). The manual gives such a field four
unsigned bytes (R183) and states no value for it, so the value is free. Log 17. -/
opaque Config.wideVolume : Nat → BitVec 32

end Sys2Proof
end

