-- ==== Sys2Proof/Machine/State.lean ====
section
/-!
DEFINITION. The state of the station, as plain data, and the state after power-on reset.

Each structure names the rule whose state table it holds. `State.reset` is R177 with the columns
"Value after power-on reset" of the tables it names.
-/

namespace Sys2Proof.Machine

/-! ### Why a step can stop -/

/-- No rule of the manual stops the part, so there is no reason for a fault. -/
inductive Fault : Type
deriving DecidableEq, Repr

/-- Why a command has no meaning. -/
inductive Refusal where
  /-- Raised by `exec` alone, for a command that has no meaning yet. Safe: the model stops where the
  part goes on. No arm raises it. -/
  | notModelled (mnemonic : String)
deriving DecidableEq, Repr

/-! ### Common pieces -/

/-- A timer: stopped, or running with the period in milliseconds it was last started with (log 3). -/
abbrev Timer := Option Nat

/-- A set of yard ports. -/
structure PortSet where
  a : Bool
  b : Bool
deriving DecidableEq, Repr

/-- A component map (R64): (station, cL) pairs in ascending station, none of value 0. -/
abbrev CompMap := List (Nat × Nat)

/-- A statistics counter and its overflow flag (R175). -/
structure Counter where
  value : Nat
  overflow : Bool
deriving DecidableEq, Repr

def Counter.zero : Counter := ⟨0, false⟩

/-! ### Configuration store (R177; ranges and defaults in R2, R29, R79, R92, R107, R126, R159) -/

/-- R126: a port's items. -/
structure PortCfg where
  configured : Bool
  relay : Bool
deriving DecidableEq, Repr

/-- The station's items (R2, R107, R126, R159). Volumes in cL, the settle window and the refresh
interval in ms, the tag return limit and the silence limit in s. -/
structure StationCfg where
  number : Option Nat
  settleWindow : Nat
  tagReturnLimit : Nat
  toneHz : Nat
  minDispense : Nat
  isolatedFraction : Nat
  portA : PortCfg
  portB : PortCfg
  silenceLimit : Nat
  refreshInterval : Nat
deriving DecidableEq, Repr

/-- A class's items (R79, R92, R107). Volumes in cL, hours in tenths. -/
structure ClassCfg where
  maxPreset : Nat
  allowance : Nat
  priority : Nat
  litresInterval : Nat
  hoursInterval : Nat
  warn : Nat
  grace : Nat
  limp : Nat
deriving DecidableEq, Repr

/-- A hose's items (R2, R29). Distances in cL, the no-flow limit in s, the after-flow period in tenths
of a second, Kh in hundredths of a pulse per litre. -/
structure HoseCfg where
  fitted : Bool
  tank : TankId
  slowDown : Nat
  closeAhead : Nat
  noFlowLimit : Nat
  afterFlow : Nat
  kh : Nat
  b1 : Nat
  b2 : Nat
  b3 : Nat
  c0 : Int
  c1 : Int
  c2 : Int
  c3 : Int
deriving DecidableEq, Repr

/-- A tank's items (R29, R92). Volumes in cL. -/
structure TankCfg where
  capacity : Nat
  reserve : Nat
  critical : Nat
  cutoff : Nat
  hysteresis : Nat
  varianceLimit : Nat
  criticalCap : Nat
  alpha : Nat
deriving DecidableEq, Repr

/-- The configuration store. -/
structure Cfg where
  station : StationCfg
  classes : Oct ClassCfg
  hoses : Quad HoseCfg
  tanks : Quad TankCfg
deriving DecidableEq, Repr

/-! ### Hose controllers (R1) -/

/-- The eleven hose states (section 1.2). CHECKING lasts within one event only (R7). -/
inductive HoseState where
  | idle
  | lifted
  | checking
  | holding
  | running
  | slowing
  | paused
  | closing
  | ended
  | refused
  | disabled
deriving DecidableEq, Repr

/-- End reasons (R20). -/
inductive EndReason where
  | preset
  | nozzle
  | aborted
  | noFlow
  | time
  | tagLost
  | tagChanged
  | meterFault
  | meterReverse
  | cutoff
  | doubleHold
  | valveFault
  | restart
deriving DecidableEq, Repr

/-- The ten refusal reasons (R183). -/
inductive RefusalReason where
  | unknownVehicle
  | tableFull
  | heldElsewhere
  | cutoff
  | reserve
  | serviceLocked
  | allowance
  | noTag
  | lineBusy
  | doubleHold
deriving DecidableEq, Repr

/-- The flags of a dispense (R1, R113). -/
structure DispenseFlags where
  manual : Bool
  uncompensated : Bool
  overrun : Bool
  meterWarn : Bool
  isolated : Bool
  limp : Bool
  capped : Bool
deriving DecidableEq, Repr

/-- The open dispense (R1). Its out-of-service mark is `Hose.outOfService`, which outlives it. -/
structure Dispense where
  vehicle : Nat
  cls : ClassId
  holdNumber : Nat
  holdShift : Nat
  tank : TankId
  granted : Nat
  startTick : Nat
  engineHours : Option Nat
  flags : DispenseFlags
  endReason : Option EndReason
  serviceLamp : Bool
deriving DecidableEq, Repr

/-- The dispense record (R20). -/
structure DispenseRecord where
  hose : HoseId
  vehicle : Nat
  cls : ClassId
  holdNumber : Nat
  holdShift : Nat
  tank : TankId
  tankPeriod : Nat
  granted : Nat
  gross : Nat
  standard : Nat
  finalTemp : Int
  engineHours : Option Nat
  startTick : Nat
  endTick : Nat
  endReason : EndReason
  flags : DispenseFlags
deriving DecidableEq, Repr

/-- The sub-phases of HOLDING (R8, R9). -/
inductive HoldingPhase where
  | none
  | queueWait
  | awaiting
  | settle
deriving DecidableEq, Repr

/-- A frame's contents, as sent and as received (R125, R184). `origin` is the station number 1 to 16. -/
structure Frame where
  priority : BitVec 2
  origin : Nat
  relayed : Bool
  kind : BitVec 4
  payload : List Byte
deriving DecidableEq, Repr

/-- The timers of a hose (R1). -/
structure HoseTimers where
  lift : Timer
  queueWait : Timer
  settle : Timer
  noFlow : Timer
  duration : Timer
  tagReturn : Timer
  afterFlow : Timer
  serviceLamp : Timer
deriving DecidableEq, Repr

/-- All timers stopped. -/
def HoseTimers.stopped : HoseTimers := ⟨none, none, none, none, none, none, none, none⟩

/-- One hose controller. `waitPorts` is the set of ports waited on for queue space (R8) or awaited for
transmission (R9); `reserved` the ports on which the hose holds a reserved urgent entry (R129);
`issue` the ISSUE notice as built, kept while the hose may owe it (R18, R26). -/
structure Hose where
  state : HoseState
  pump : Bool
  mainValve : Bool
  slowValve : Bool
  lifted : Bool
  switchKnown : Bool
  requested : Option Nat
  dispense : Option Dispense
  outOfService : Bool
  last : Option DispenseRecord
  pendingIssue : PortSet
  issue : Option Frame
  lateVolume : Nat
  leakReported : Bool
  phase : HoldingPhase
  waitPorts : PortSet
  reserved : PortSet
  timers : HoseTimers
deriving DecidableEq, Repr

/-! ### Meter units (R28) -/

/-- The four phases of the quadrature decoder (section 2.3). -/
inductive MeterPhase where
  | p0
  | p1
  | p2
  | p3
deriving DecidableEq, Repr

/-- One meter unit. -/
structure Meter where
  phase : MeterPhase
  net : Int
  aRise : Nat
  phaseError : Bool
  saturated : Bool
  errorRun : Nat
  c : Nat
  g : Nat
  prevG : Nat
  reverseTotal : Nat
  acc : Nat
  s : Nat
  t10 : Option Int
  held : Option Int
  invalidRun : Nat
  fallback : Bool
  faultReported : Bool
  reverseReported : Bool
  latePulses : Nat
  carried : Nat
  lateActive : Bool
  windowTimer : Timer
deriving DecidableEq, Repr

/-! ### Tag links (R47) -/

/-- The four phases of the line (R49). -/
inductive LinePhase where
  | held
  | opened
  | sending
  | broken
deriving DecidableEq, Repr

/-- The modes of a tag link (R48). -/
inductive TagMode where
  | quiet
  | seek
  | wait
  | watch
  | search
  | manual
deriving DecidableEq, Repr

/-- The six lamp commands (R183). -/
inductive Lamp where
  | off
  | amber
  | green
  | red
  | redFlash
  | amberFlash
deriving DecidableEq, Repr

/-- An identity page as the consistency tracker keeps it. -/
structure TagEntry where
  vehicle : Nat
  cls : ClassId
  toggle : Bool
deriving DecidableEq, Repr

/-- An accepted identity. -/
structure Identity where
  vehicle : Nat
  cls : ClassId
deriving DecidableEq, Repr

/-- The bytes that a discarded message still has to come (R50): none, the rest of a page of known length,
or all bytes up to a gap (log 36). -/
inductive Leftover where
  | none
  | bytes (n : Nat)
  | toGap
deriving DecidableEq, Repr

/-- One tag link. `message` holds the bytes of a message in progress, `leftover` what a discarded message
still has to come, `buffer` a complete message. `dataLow` is set while the reader holds data low after an
overrun (R51). `lampBits` holds the 11 bits of the lamp command in flight, start bit first (R60, R187). -/
structure TagLink where
  line : LinePhase
  dataLow : Bool
  mode : TagMode
  message : List Byte
  leftover : Leftover
  buffer : Option (List Byte)
  tracker : List TagEntry
  accepted : Option Identity
  hoursAdopted : Bool
  watchTimer : Timer
  gapTimer : Timer
  inFlight : Option Lamp
  lampBits : List Bool
  lampTimer : Timer
  pendingLamp : Option Lamp
  lastLamp : Lamp
deriving DecidableEq, Repr

/-! ### Vehicle table (R62) -/

/-- Service statuses (R81). -/
inductive ServiceStatus where
  | ok
  | due
  | overdue
  | locked
deriving DecidableEq, Repr

/-- Where a vehicle record came from (R65). -/
inductive Origin where
  | tag
  | enrol
  | notice
deriving DecidableEq, Repr

/-- One vehicle record. -/
structure VehicleRecord where
  vehicle : Nat
  cls : ClassId
  settled : Bool
  shift : Nat
  shiftMap : CompMap
  generation : Nat
  hoursAtService : Option Nat
  serviceMap : CompMap
  latestHours : Option Nat
  pendingHours : Option Nat
  status : ServiceStatus
  origin : Origin
  touched : Nat
deriving DecidableEq, Repr

/-! ### Tank records (R91) -/

/-- The four stages (R99). -/
inductive Stage where
  | normal
  | reserve
  | critical
  | cutoff
deriving DecidableEq, Repr

/-- A gauge with this station's snapshots (R96). -/
structure Gauge where
  count : Nat
  origin : Nat
  volume : Nat
  issuedAt : Nat
  deliveredAt : Nat
deriving DecidableEq, Repr

/-- One tank record. -/
structure Tank where
  period : Nat
  opening : Nat
  openingPending : Bool
  issueMap : CompMap
  deliveryMap : CompMap
  gauge : Option Gauge
  variance : Option Int
  varianceFlag : Bool
  stage : Stage
deriving DecidableEq, Repr

/-! ### Hold list (R116) -/

/-- One hold entry; `age` in seconds. -/
structure HoldEntry where
  station : Nat
  hose : HoseId
  vehicle : Nat
  shift : Nat
  tank : TankId
  preset : Nat
  number : Nat
  age : Nat
deriving DecidableEq, Repr

/-! ### Yard ports (R125) -/

/-- Port states (R127). -/
inductive PortState where
  | off
  | active
  | silent
  | fault
deriving DecidableEq, Repr

/-- FAULT causes (R125). -/
inductive FaultCause where
  | transmit
  | stall
  | duplicate
deriving DecidableEq, Repr

/-- Class marks of transmit queue entries (R125). -/
inductive EntryMark where
  | ordinary
  | refresh
  | relay
deriving DecidableEq, Repr

/-- A transmit queue entry. `hold` names the hose and the hold number of a first HOLD. -/
structure QueueEntry where
  frame : Frame
  mark : EntryMark
  hold : Option (HoseId × Nat)
deriving DecidableEq, Repr

/-- The entry being sent and whether it is the head of the urgent queue. -/
structure Sending where
  urgent : Bool
  entry : QueueEntry
deriving DecidableEq, Repr

/-- The counters of a port (R125). -/
structure PortCounters where
  framesSent : Counter
  framesReceived : Counter
  checkErrors : Counter
  fifoLost : Counter
  relayed : Counter
  relayDropped : Counter
  tableFullDrops : Counter
  faultDiscards : Counter
deriving DecidableEq, Repr

/-- One yard port. `cts` and `rts` are the modem lines of port B; `resync` is set while port B takes no
byte as a header (R142). -/
structure Port where
  state : PortState
  cause : Option FaultCause
  silenceTimer : Timer
  recoveryTimer : Timer
  stallTimer : Timer
  urgent : List QueueEntry
  routine : List QueueEntry
  sending : Option Sending
  failCount : Nat
  fifo : List Frame
  partFrame : List Byte
  messageLost : Bool
  cts : Bool
  rts : Bool
  resync : Bool
  counters : PortCounters
deriving DecidableEq, Repr

/-! ### Refresh walker (R159) -/

/-- A fast pass: its count of tank steps and its wrap mark. -/
structure FastPass where
  tanks : Nat
  wrapped : Bool
deriving DecidableEq, Repr

/-- The refresh walker; no position is the start of the table. -/
structure Walker where
  position : Option Nat
  stepCount : Nat
  nextTank : TankId
  fast : Option FastPass
  stepTimer : Timer
deriving DecidableEq, Repr

/-! ### Events and the console port (R162, R172) -/

/-- The kinds of event with their details (R172). -/
inductive EventDetail where
  | dispenseEnd (record : DispenseRecord)
  | refusal (reason : RefusalReason)
  | hoseState (new left : HoseState)
  | tagFault
  | valveLeak (volume : Nat)
  | serviceStatus (new previous : ServiceStatus) (p : Nat)
  | hoursSuspect (reading latest : Nat)
  | stageChange (new previous : Stage) (effective : Option Int)
  | variance (variance : Int) (limit : Nat) (flag : Bool)
  | shiftChange (new previous origin : Nat)
  | lineState (new left : PortState) (cause : Option FaultCause)
  | duplicateStation (kind : BitVec 4)
  | tableFull
  | eventsLost (count : Nat)
deriving DecidableEq, Repr

/-- An event entry. -/
structure Event where
  tick : Nat
  subject : Nat
  detail : EventDetail
deriving DecidableEq, Repr

/-- The phases of the console port (R164). -/
inductive ConsolePhase where
  | command
  | execution
  | result
deriving DecidableEq, Repr

/-- A command being collected: its code and the parameter bytes taken so far. -/
structure CommandBuffer where
  code : Byte
  params : List Byte
deriving DecidableEq, Repr

/-- The console port. `misoStatus` and `misoData` are the bytes last shifted out to the host. -/
structure Console where
  phase : ConsolePhase
  command : Option CommandBuffer
  result : List Byte
  readPos : Nat
  codeRead : Bool
  events : List Event
  eventsLost : Nat
  intLine : Bool
  misoStatus : Byte
  misoData : Byte
deriving DecidableEq, Repr

/-! ### Counters of classes and hoses (R175) -/

/-- A class's counters: six size buckets, the standard volume total, and one refusal count for each of
the ten reasons in the order of their codes. -/
structure ClassCounters where
  buckets : Vector Counter 6
  volume : Counter
  refusals : Vector Counter 10
deriving DecidableEq, Repr

/-- A hose's counters. -/
structure HoseCounters where
  phaseErrors : Counter
  latePulses : Counter
  reverseDiscarded : Counter
  tagErrors : Counter
  tagFaults : Counter
deriving DecidableEq, Repr

/-! ### Bay alert (R27) -/

/-- The alert patterns; SOUND with its duration in tenths of a second. -/
inductive AlertPattern where
  | none
  | refuse
  | tagLost
  | locked
  | sound (tenths : Nat)
deriving DecidableEq, Repr

/-! ### The station -/

/-- The state of the whole part and the queue of the commands that wait for it. -/
structure State where
  started : Bool
  cfg : Cfg
  tick : Nat
  hoses : Quad Hose
  holdCounter : Nat
  meters : Quad Meter
  tags : Quad TagLink
  vehicles : List VehicleRecord
  sigma : Nat
  tableFullTick : Option Nat
  tanks : Quad Tank
  holds : List HoldEntry
  holdExpiries : Counter
  portA : Port
  portB : Port
  walker : Walker
  console : Console
  classCounters : Oct ClassCounters
  hoseCounters : Quad HoseCounters
  alert : AlertPattern
  pending : List Instr
deriving DecidableEq, Repr

/-! ### Power-on values -/

/-- The empty set of ports. -/
def PortSet.empty : PortSet := ⟨false, false⟩

/-- All flags clear. -/
def DispenseFlags.clear : DispenseFlags := ⟨false, false, false, false, false, false, false⟩

/-- The defaults of the station's items (R2, R107, R126, R159); no station number (R177). -/
def StationCfg.default : StationCfg where
  number := none
  settleWindow := 400
  tagReturnLimit := 60
  toneHz := 2000
  minDispense := 2000
  isolatedFraction := 50
  portA := ⟨true, false⟩
  portB := ⟨false, false⟩
  silenceLimit := 30
  refreshInterval := 500

/-- The defaults of a class's items (R79, R92, R107). -/
def ClassCfg.default : ClassCfg where
  maxPreset := 100000
  allowance := 300000
  priority := 2
  litresInterval := 6000000
  hoursInterval := 5000
  warn := 900
  grace := 100
  limp := 10000

/-- The defaults of a hose's items (R2, R29). -/
def HoseCfg.default : HoseCfg where
  fitted := true
  tank := 0
  slowDown := 500
  closeAhead := 10
  noFlowLimit := 90
  afterFlow := 20
  kh := 10000
  b1 := 100
  b2 := 300
  b3 := 600
  c0 := 0
  c1 := 0
  c2 := 0
  c3 := 0

/-- The defaults of a tank's items (R29, R92). -/
def TankCfg.default : TankCfg where
  capacity := 10000000
  reserve := 3000000
  critical := 1500000
  cutoff := 300000
  hysteresis := 100000
  varianceLimit := 100000
  criticalCap := 20000
  alpha := 0

/-- The configuration store after power-on reset (R177). -/
def Cfg.default : Cfg where
  station := StationCfg.default
  classes := Oct.all ClassCfg.default
  hoses := Quad.all HoseCfg.default
  tanks := Quad.all TankCfg.default

/-- A hose after power-on reset (R1, R3, R5, R23). -/
def Hose.reset : Hose where
  state := .disabled
  pump := false
  mainValve := false
  slowValve := false
  lifted := false
  switchKnown := false
  requested := none
  dispense := none
  outOfService := false
  last := none
  pendingIssue := PortSet.empty
  issue := none
  lateVolume := 0
  leakReported := false
  phase := .none
  waitPorts := PortSet.empty
  reserved := PortSet.empty
  timers := HoseTimers.stopped

/-- A meter unit after power-on reset (R28). The decoder phase is the phase of the inputs; P0 here
(log 8). -/
def Meter.reset : Meter where
  phase := .p0
  net := 0
  aRise := 0
  phaseError := false
  saturated := false
  errorRun := 0
  c := 0
  g := 0
  prevG := 0
  reverseTotal := 0
  acc := 0
  s := 0
  t10 := none
  held := none
  invalidRun := 0
  fallback := false
  faultReported := false
  reverseReported := false
  latePulses := 0
  carried := 0
  lateActive := false
  windowTimer := none

/-- A tag link after power-on reset (R47). -/
def TagLink.reset : TagLink where
  line := .held
  dataLow := false
  mode := .quiet
  message := []
  leftover := .none
  buffer := none
  tracker := []
  accepted := none
  hoursAdopted := false
  watchTimer := none
  gapTimer := none
  inFlight := none
  lampBits := []
  lampTimer := none
  pendingLamp := none
  lastLamp := .off

/-- A tank record after power-on reset (R91). -/
def Tank.reset : Tank where
  period := 0
  opening := 0
  openingPending := true
  issueMap := []
  deliveryMap := []
  gauge := none
  variance := none
  varianceFlag := false
  stage := .cutoff

/-- A port's counters after power-on reset and after Restart (R125). -/
def PortCounters.zero : PortCounters :=
  ⟨.zero, .zero, .zero, .zero, .zero, .zero, .zero, .zero⟩

/-- A yard port after power-on reset (R125). Clear-to-send is read as deasserted (log 8). -/
def Port.reset : Port where
  state := .off
  cause := none
  silenceTimer := none
  recoveryTimer := none
  stallTimer := none
  urgent := []
  routine := []
  sending := none
  failCount := 0
  fifo := []
  partFrame := []
  messageLost := false
  cts := false
  rts := false
  resync := false
  counters := PortCounters.zero

/-- The refresh walker after power-on reset (R159). -/
def Walker.reset : Walker := ⟨none, 0, 0, none, none⟩

/-- The console port after power-on reset (R162). -/
def Console.reset : Console where
  phase := .command
  command := none
  result := []
  readPos := 0
  codeRead := true
  events := []
  eventsLost := 0
  intLine := false
  misoStatus := 0
  misoData := 0

/-- A class's counters at zero (R175). -/
def ClassCounters.zero : ClassCounters :=
  ⟨Vector.replicate 6 .zero, .zero, Vector.replicate 10 .zero⟩

/-- A hose's counters at zero (R175). -/
def HoseCounters.zero : HoseCounters := ⟨.zero, .zero, .zero, .zero, .zero⟩

/-- The station right after power-on reset (R177), with no command waiting. -/
def State.reset : State where
  started := false
  cfg := Cfg.default
  tick := 0
  hoses := Quad.all Hose.reset
  holdCounter := 0
  meters := Quad.all Meter.reset
  tags := Quad.all TagLink.reset
  vehicles := []
  sigma := 0
  tableFullTick := none
  tanks := Quad.all Tank.reset
  holds := []
  holdExpiries := .zero
  portA := Port.reset
  portB := Port.reset
  walker := Walker.reset
  console := Console.reset
  classCounters := Oct.all ClassCounters.zero
  hoseCounters := Quad.all HoseCounters.zero
  alert := .none
  pending := []

end Sys2Proof.Machine
end

