-- ==== Sys2Proof/Machine/Codes.lean ====
section
/-!
DEFINITION. The coded values of R183, the command codes and completion codes of R188, and the event
kind codes of R191.
-/

namespace Sys2Proof.Machine

def HoseState.code (x : HoseState) : Byte :=
  match x with
  | .idle => 0
  | .lifted => 1
  | .checking => 2
  | .holding => 3
  | .running => 4
  | .slowing => 5
  | .paused => 6
  | .closing => 7
  | .ended => 8
  | .refused => 9
  | .disabled => 10

def EndReason.code (x : EndReason) : Byte :=
  match x with
  | .preset => 1
  | .nozzle => 2
  | .aborted => 3
  | .noFlow => 4
  | .time => 5
  | .tagLost => 6
  | .tagChanged => 7
  | .meterFault => 8
  | .meterReverse => 9
  | .cutoff => 10
  | .doubleHold => 11
  | .valveFault => 12
  | .restart => 13

def RefusalReason.code (x : RefusalReason) : Byte :=
  match x with
  | .unknownVehicle => 1
  | .tableFull => 2
  | .heldElsewhere => 3
  | .cutoff => 4
  | .reserve => 5
  | .serviceLocked => 6
  | .allowance => 7
  | .noTag => 8
  | .lineBusy => 9
  | .doubleHold => 10

/-- The place of a reason among a class's ten refusal counts (R190: in the order of the codes). -/
def RefusalReason.index (x : RefusalReason) : Fin 10 :=
  match x with
  | .unknownVehicle => 0
  | .tableFull => 1
  | .heldElsewhere => 2
  | .cutoff => 3
  | .reserve => 4
  | .serviceLocked => 5
  | .allowance => 6
  | .noTag => 7
  | .lineBusy => 8
  | .doubleHold => 9

def ServiceStatus.code (x : ServiceStatus) : Byte :=
  match x with
  | .ok => 0
  | .due => 1
  | .overdue => 2
  | .locked => 3

def Stage.code (x : Stage) : Byte :=
  match x with
  | .normal => 0
  | .reserve => 1
  | .critical => 2
  | .cutoff => 3

def PortState.code (x : PortState) : Byte :=
  match x with
  | .off => 0
  | .active => 1
  | .silent => 2
  | .fault => 3

/-- A FAULT cause, or its absence. -/
def causeCode (x : Option FaultCause) : Byte :=
  match x with
  | none => 0
  | some .transmit => 1
  | some .stall => 2
  | some .duplicate => 3

def Origin.code (x : Origin) : Byte :=
  match x with
  | .tag => 1
  | .enrol => 2
  | .notice => 3

def Lamp.code (x : Lamp) : Byte :=
  match x with
  | .off => 0x00
  | .amber => 0x01
  | .green => 0x02
  | .red => 0x03
  | .redFlash => 0x04
  | .amberFlash => 0x05

/-- R184: the kind codes of the seven notice kinds. -/
def kindHold : BitVec 4 := 1
def kindRollcall : BitVec 4 := 2
def kindShift : BitVec 4 := 3
def kindService : BitVec 4 := 4
def kindIssue : BitVec 4 := 5
def kindStock : BitVec 4 := 6
def kindState : BitVec 4 := 7

/-- R184, R150: whether a kind code is one of the seven notice kinds. -/
def isNoticeKind (k : BitVec 4) : Bool := decide (1 ≤ k.toNat) && decide (k.toNat ≤ 7)

/-- R132: the priority of a notice kind. -/
def kindPriority (k : BitVec 4) : BitVec 2 :=
  if k = kindHold then 0
  else if k = kindRollcall ∨ k = kindShift ∨ k = kindService then 1
  else if k = kindIssue then 2
  else 3

/-- Completion codes (R168, R188). -/
inductive Code where
  | ok
  | badCommand
  | badParameter
  | wrongState
  | queueFull
  | notFound
  | tableFull
  | hoseBusy
deriving DecidableEq, Repr

def Code.byte (x : Code) : Byte :=
  match x with
  | .ok => 0x01
  | .badCommand => 0x02
  | .badParameter => 0x03
  | .wrongState => 0x04
  | .queueFull => 0x05
  | .notFound => 0x06
  | .tableFull => 0x07
  | .hoseBusy => 0x08

/-- R188: the number of parameter bytes of a command code, if the code names a command. -/
def paramBytes (code : Byte) : Option Nat :=
  match code.toNat with
  | 0x01 => some 5
  | 0x02 => some 6
  | 0x03 => some 6
  | 0x04 => some 6
  | 0x05 => some 0
  | 0x10 => some 0
  | 0x11 => some 3
  | 0x12 => some 2
  | 0x13 => some 3
  | 0x14 => some 3
  | 0x15 => some 1
  | 0x16 => some 1
  | 0x17 => some 0
  | 0x18 => some 7
  | 0x19 => some 5
  | 0x1A => some 5
  | 0x1B => some 5
  | 0x1C => some 1
  | 0x20 => some 0
  | 0x21 => some 1
  | 0x22 => some 2
  | 0x23 => some 1
  | 0x24 => some 1
  | 0x25 => some 0
  | _ => none

/-- R191: the kind code of an event. -/
def EventDetail.code (d : EventDetail) : Byte :=
  match d with
  | .dispenseEnd _ => 1
  | .refusal _ => 2
  | .hoseState _ _ => 3
  | .tagFault => 4
  | .valveLeak _ => 5
  | .serviceStatus _ _ _ => 6
  | .hoursSuspect _ _ => 7
  | .stageChange _ _ _ => 8
  | .variance _ _ _ => 9
  | .shiftChange _ _ _ => 10
  | .lineState _ _ _ => 11
  | .duplicateStation _ => 12
  | .tableFull => 13
  | .eventsLost _ => 14

end Sys2Proof.Machine
end

