-- ==== Sys2Proof/Machine/Limits.lean ====
section
/-!
DEFINITION. The fixed numbers of the part. Times are in milliseconds unless the name says otherwise.
-/

namespace Sys2Proof.Machine

/-- R64: the largest component, sum and credit. -/
def maxVolume : Nat := 4294967295

/-- R63: the most vehicle records. -/
def maxVehicles : Nat := 320

/-- R125: places in an urgent transmit queue. -/
def urgentSize : Nat := 8

/-- R125: places in a routine transmit queue. -/
def routineSize : Nat := 32

/-- R125: places in a receive FIFO. -/
def fifoSize : Nat := 16

/-- R130: routine entries kept free of refresh and relay entries. -/
def admissionMargin : Nat := 8

/-- R172: places in the event queue. -/
def eventQueueSize : Nat := 32

/-- R162: the largest events-lost count. -/
def maxEventsLost : Nat := 65535

/-- R2: the lift timeout. -/
def liftTimeoutMs : Nat := 120000

/-- R2: the hold queue wait limit. -/
def queueWaitMs : Nat := 5000

/-- R2: the maximum dispense duration. -/
def durationMs : Nat := 1800000

/-- R2: the service lamp period. -/
def serviceLampMs : Nat := 5000

/-- R2: the late volume, in cL, above which a leak is reported. -/
def leakThreshold : Nat := 50

/-- R29: the flow window. -/
def flowWindowMs : Nat := 250

/-- R33: the limit of the two window counts. -/
def windowLimit : Nat := 32767

/-- R34: the phase-error run that raises METER_FAULT. -/
def errorRunLimit : Nat := 4

/-- R38: the reverse total, in cL, above which METER_REVERSE is raised. -/
def reverseLimit : Nat := 200

/-- R40: the invalid run that sets fallback. -/
def invalidRunLimit : Nat := 120

/-- R39: the valid probe readings, in tenths of a degree. -/
def probeLow : Int := -200

/-- R39. -/
def probeHigh : Int := 700

/-- R40: the temperature used in fallback, in tenths of a degree. -/
def fallbackTemp : Int := 150

/-- R47: the tag watch timer. -/
def tagWatchMs : Nat := 2000

/-- R50: the gap timer. -/
def tagGapMs : Nat := 10

/-- R60: the lamp command timer. -/
def lampMs : Nat := 15

/-- R50, R86, R150: the largest engine hours, in tenths. -/
def maxHours : Nat := 99999999

/-- Section 5.5: the jump limit, in tenths of an hour. -/
def jumpLimit : Nat := 2000

/-- Section 5.5: the confirmation band, in tenths of an hour. -/
def confirmBand : Nat := 10

/-- R118: the age, in seconds, at which an own entry is announced again. -/
def refreshAge : Nat := 20

/-- R121: the age, in seconds, at which a peer entry expires. -/
def expiryAge : Nat := 60

/-- R69: the least distance, in seconds, between two TABLE_FULL events. -/
def tableFullGap : Nat := 60

/-- R137: the transmit failure limit. -/
def failLimit : Nat := 16

/-- R137: the recovery timer. -/
def recoveryMs : Nat := 10000

/-- R141: the stall timer. -/
def stallMs : Nat := 30000

/-- R160: vehicle steps between two tank steps of the walker. -/
def walkerVehicleSteps : Nat := 16

/-- R161: tank steps of a fast pass. -/
def fastPassTanks : Nat := 4

/-- R94: the largest delivery, in cL. -/
def maxDelivery : Nat := 200000000

/-- R62, R71, R86, R91, R95: the largest shift, generation, period and gauge count. -/
def maxNumber : Nat := 65535

/-- The vehicle numbers 0 and 65,535 do not name vehicles. -/
def namesVehicle (v : Nat) : Bool := v != 0 && v != 65535

end Sys2Proof.Machine
end

