-- ==== Sys2Proof/Machine/Ops.lean ====
section
/-!
DEFINITION. The named operations over the state: one home for each read and each write.

The part has no memory and takes no exceptions; raising a flag, the interrupt line or an event is the
effect of a command on `State`.
-/

namespace Sys2Proof.Machine

/-! ### Sets of ports -/

/-- Whether `p` is in the set. -/
def PortSet.mem (x : PortSet) (p : PortId) : Bool :=
  match p with
  | .a => x.a
  | .b => x.b

/-- The set with `p` put in or taken out. -/
def PortSet.put (x : PortSet) (p : PortId) (v : Bool) : PortSet :=
  match p with
  | .a => { x with a := v }
  | .b => { x with b := v }

/-- Whether the set is empty. -/
def PortSet.isEmpty (x : PortSet) : Bool := !x.a && !x.b

/-! ### Counters (R175) -/

/-- R175: an increment keeps the low 32 bits and sets the overflow flag when it would pass the
largest value. -/
def Counter.add (c : Counter) (n : Nat) : Counter :=
  ⟨(c.value + n) % 4294967296, c.overflow || decide (maxVolume < c.value + n)⟩

/-- One more. -/
def Counter.inc (c : Counter) : Counter := c.add 1

/-! ### Reading and writing the parts of the state -/

namespace State

def hose (s : State) (h : HoseId) : Hose := s.hoses.get h

def modHose (s : State) (h : HoseId) (f : Hose → Hose) : State :=
  { s with hoses := s.hoses.set h (f (s.hoses.get h)) }

def meter (s : State) (h : HoseId) : Meter := s.meters.get h

def modMeter (s : State) (h : HoseId) (f : Meter → Meter) : State :=
  { s with meters := s.meters.set h (f (s.meters.get h)) }

def tag (s : State) (h : HoseId) : TagLink := s.tags.get h

def modTag (s : State) (h : HoseId) (f : TagLink → TagLink) : State :=
  { s with tags := s.tags.set h (f (s.tags.get h)) }

def tank (s : State) (t : TankId) : Tank := s.tanks.get t

def modTank (s : State) (t : TankId) (f : Tank → Tank) : State :=
  { s with tanks := s.tanks.set t (f (s.tanks.get t)) }

def port (s : State) (p : PortId) : Port :=
  match p with
  | .a => s.portA
  | .b => s.portB

def modPort (s : State) (p : PortId) (f : Port → Port) : State :=
  match p with
  | .a => { s with portA := f s.portA }
  | .b => { s with portB := f s.portB }

def modConsole (s : State) (f : Console → Console) : State := { s with console := f s.console }

def modWalker (s : State) (f : Walker → Walker) : State := { s with walker := f s.walker }

def modHoseCounters (s : State) (h : HoseId) (f : HoseCounters → HoseCounters) : State :=
  { s with hoseCounters := s.hoseCounters.set h (f (s.hoseCounters.get h)) }

def modClassCounters (s : State) (c : ClassId) (f : ClassCounters → ClassCounters) : State :=
  { s with classCounters := s.classCounters.set c (f (s.classCounters.get c)) }

def modPortCounters (s : State) (p : PortId) (f : PortCounters → PortCounters) : State :=
  s.modPort p fun x => { x with counters := f x.counters }

def hoseCfg (s : State) (h : HoseId) : HoseCfg := s.cfg.hoses.get h

def tankCfg (s : State) (t : TankId) : TankCfg := s.cfg.tanks.get t

def classCfg (s : State) (c : ClassId) : ClassCfg := s.cfg.classes.get c

/-- R126: the items of a port. -/
def portCfg (s : State) (p : PortId) : PortCfg :=
  match p with
  | .a => s.cfg.station.portA
  | .b => s.cfg.station.portB

/-- The station's number; 0, which means "no station", before Set Station has stored one. -/
def ownNumber (s : State) : Nat := s.cfg.station.number.getD 0

/-- A hose that runs: the station is RUNNING and the hose is fitted. -/
def fittedRunning (s : State) (h : HoseId) : Bool := s.started && (s.hoseCfg h).fitted

end State

/-- The hoses in ascending number, each taken by `f` in turn. -/
def forHoses (f : HoseId → State → State) (s : State) : State := f 3 (f 2 (f 1 (f 0 s)))

/-- The tanks in ascending number, each taken by `f` in turn. -/
def forTanks (f : TankId → State → State) (s : State) : State := f 3 (f 2 (f 1 (f 0 s)))

/-- The ports, A and then B, each taken by `f` in turn. -/
def forPorts (f : PortId → State → State) (s : State) : State := f .b (f .a s)

/-! ### Events (R172) and the interrupt line (R167) -/

/-- R172: an event enters the queue as the newest entry, or is dropped and counted when the queue
holds 32; R167: an entry in the queue asserts the interrupt line. -/
def post (subject : Nat) (d : EventDetail) (s : State) : State :=
  if s.console.events.length < eventQueueSize then
    s.modConsole fun k =>
      { k with events := k.events ++ [⟨s.tick, subject, d⟩], intLine := true }
  else
    s.modConsole fun k => { k with eventsLost := min maxEventsLost (k.eventsLost + 1) }

/-- The number of a port as an event's subject (R183: A 0, B 1). -/
def portNumber (p : PortId) : Nat :=
  match p with
  | .a => 0
  | .b => 1

/-- The port that is not `p`. -/
def otherPort (p : PortId) : PortId :=
  match p with
  | .a => .b
  | .b => .a

/-! ### Port states, isolation and room in the queues -/

/-- A port that transmits (R127). -/
def PortState.live (x : PortState) : Bool :=
  match x with
  | .active | .silent => true
  | .off | .fault => false

/-- A port that counts towards isolation (R115). -/
def PortState.cutOff (x : PortState) : Bool :=
  match x with
  | .silent | .fault => true
  | .off | .active => false

/-- A configured yard port that is not in FAULT: the ports every producer sends on (R8, R18, R72). -/
def usable (s : State) (p : PortId) : Bool :=
  (s.portCfg p).configured && decide ((s.port p).state ≠ .fault)

/-- The set of the usable ports. -/
def usablePorts (s : State) : PortSet := ⟨usable s .a, usable s .b⟩

/-- R115: a RUNNING station is isolated while every configured port is SILENT or FAULT (log 20). -/
def isolated (s : State) : Bool :=
  s.started && (!(s.portCfg .a).configured || (s.port .a).state.cutOff)
    && (!(s.portCfg .b).configured || (s.port .b).state.cutOff)

/-- R126: both ports configured and both with the relay option. -/
def relayConfigured (s : State) : Bool :=
  (s.portCfg .a).configured && (s.portCfg .a).relay && (s.portCfg .b).configured
    && (s.portCfg .b).relay

/-- R140, R141: request-to-send and the stall timer of port B follow its state, its queues and
clear-to-send. -/
def Port.sync (p : PortId) (x : Port) : Port :=
  match p with
  | .a => x
  | .b =>
    let waits := x.state.live && !(x.urgent.isEmpty && x.routine.isEmpty)
    { x with
      rts := waits
      stallTimer := if waits && !x.cts then some (x.stallTimer.getD stallMs) else none }

/-- The hoses that hold a reserved urgent entry of the port (R129). -/
def reservedCount (s : State) (p : PortId) : Nat :=
  (s.hoses.toList.filter fun x => x.reserved.mem p).length

/-- The hoses that wait for a routine entry of the port (R18); a freed entry is offered to them first
(R129, log 13). -/
def owedCount (s : State) (p : PortId) : Nat :=
  (s.hoses.toList.filter fun x => x.pendingIssue.mem p).length

/-- Urgent entries free for any producer but the hoses that reserved theirs. -/
def freeUrgent (s : State) (p : PortId) : Nat :=
  urgentSize - (s.port p).urgent.length - reservedCount s p

/-- Routine entries free for any producer but the hoses that wait for one. -/
def freeRoutine (s : State) (p : PortId) : Nat :=
  routineSize - (s.port p).routine.length - owedCount s p

/-- Places an entry at the end of the urgent queue. -/
def pushUrgent (p : PortId) (e : QueueEntry) (s : State) : State :=
  s.modPort p fun x => Port.sync p { x with urgent := x.urgent ++ [e] }

/-- Places an entry at the end of the routine queue. -/
def pushRoutine (p : PortId) (e : QueueEntry) (s : State) : State :=
  s.modPort p fun x => Port.sync p { x with routine := x.routine ++ [e] }

/-- Places entries at the end of the routine queue, in order. -/
def pushRoutineAll (p : PortId) (es : List QueueEntry) (s : State) : State :=
  s.modPort p fun x => Port.sync p { x with routine := x.routine ++ es }

/-- R72, R86, R157: whether every usable port has at least `k` free routine entries. -/
def roomOnAll (s : State) (k : Nat) : Bool :=
  (!usable s .a || decide (k ≤ freeRoutine s .a)) && (!usable s .b || decide (k ≤ freeRoutine s .b))

/-- R72, R86, R157: the frames as ordinary entries on the routine queue of every usable port. -/
def queueOrdinary (fs : List Frame) (s : State) : State :=
  let es := fs.map fun f => (⟨f, .ordinary, none⟩ : QueueEntry)
  forPorts (fun p x => if usable s p then pushRoutineAll p es x else x) s

/-! ### The line of a tag link (R49), lamp requests (R58) and the bay alert (R27) -/

/-- R49, R59: a lamp command is about to be sent: one is pending, and no message and no command in flight
keeps it waiting. -/
def aboutToSend (t : TagLink) : Bool :=
  t.pendingLamp.isSome && t.message.isEmpty && t.buffer.isNone && t.inFlight.isNone

/-- R49, R51: the phase that the line takes when no lamp command is being sent and no break lasts: HELD in
QUIET, with a message in the receive buffer, with a lamp command about to be sent, and until data rises
after an overrun. -/
def restingLine (t : TagLink) : LinePhase :=
  if t.mode = .quiet ∨ t.buffer.isSome = true ∨ aboutToSend t = true ∨ t.dataLow = true then .held
  else .opened

/-- R49: the line follows these conditions, except in SENDING and BREAK. -/
def settleLine (t : TagLink) : TagLink :=
  match t.line with
  | .sending | .broken => t
  | .held | .opened => { t with line := restingLine t }

/-- R58: the pending slot takes a lamp request in place of what it held. -/
def pendLamp (l : Lamp) (t : TagLink) : TagLink :=
  settleLine { t with pendingLamp := some l, lastLamp := l }

/-- R58, R49: a lamp command is requested of a hose's tag link. -/
def requestLamp (h : HoseId) (l : Lamp) (s : State) : State := s.modTag h (pendLamp l)

/-- R27: a pattern request replaces the current pattern at once. -/
def requestAlert (a : AlertPattern) (s : State) : State := { s with alert := a }

/-- Whether any hose is in PAUSED. -/
def anyPaused (s : State) : Bool := s.hoses.toList.any fun x => decide (x.state = .paused)

/-- R27: TAG_LOST ends at once when no hose is in PAUSED any longer. -/
def alertAfterMove (s : State) : State :=
  if s.alert = .tagLost ∧ anyPaused s = false then { s with alert := .none } else s

/-! ### Component maps (R64) -/

namespace CompMap

/-- The component of station `k`; an absent component is 0. -/
def get (m : CompMap) (k : Nat) : Nat :=
  match m with
  | [] => 0
  | (j, w) :: t => if j = k then w else get t k

/-- The component of station `k` set to `v`; a component of 0 is absent, and the map stays in
ascending station. -/
def put (m : CompMap) (k v : Nat) : CompMap :=
  match m with
  | [] => if v = 0 then [] else [(k, v)]
  | (j, w) :: t =>
    if j < k then (j, w) :: put t k v
    else if j = k then (if v = 0 then t else (k, v) :: t)
    else (if v = 0 then (j, w) :: t else (k, v) :: (j, w) :: t)

/-- R64, merge by maximum: the larger of the held and the heard value. -/
def merge (m : CompMap) (k x : Nat) : CompMap := put m k (max (get m k) x)

/-- R64, own credit: the volume is added, held at the largest value. -/
def credit (m : CompMap) (k x : Nat) : CompMap := put m k (min maxVolume (get m k + x))

/-- R64: the sum of the components present, held at the largest value. -/
def sum (m : CompMap) : Nat := min maxVolume ((m.map Prod.snd).foldl (· + ·) 0)

/-- Merges a list of (station, value) pairs in order. -/
def mergeAll (m : CompMap) (l : List (Nat × Nat)) : CompMap :=
  l.foldl (fun acc kv => merge acc kv.1 kv.2) m

end CompMap

/-- The component map (R64) as one predicate: ascending stations, none of value 0. -/
def CompMap.wf : CompMap → Bool
  | [] => true
  | (_, v) :: [] => v != 0
  | (j, v) :: (k, w) :: t => v != 0 && decide (j < k) && CompMap.wf ((k, w) :: t)

end Sys2Proof.Machine
end

