-- ==== Sys2Proof/Machine/Operands.lean ====
section
/-!
DEFINITION. Operand forms: fields of bytes written and read (R183, R149), numbers of objects in a
parameter byte, and the bytes of a tag message (R50, R187).
-/

namespace Sys2Proof.Machine

/-! ### Writing fields (R183: most significant byte first) -/

/-- A one-byte field. -/
def byte1 (n : Nat) : List Byte := [BitVec.ofNat 8 n]

/-- A two-byte unsigned field. -/
def byte2 (n : Nat) : List Byte := [BitVec.ofNat 8 (n / 256), BitVec.ofNat 8 n]

/-- The four bytes of a word. -/
def wordBytes (w : Word) : List Byte :=
  [w.extractLsb' 24 8, w.extractLsb' 16 8, w.extractLsb' 8 8, w.extractLsb' 0 8]

/-- A four-byte unsigned field; a number that needs more is a free value (log 17). -/
def byte4 (n : Nat) : List Byte :=
  wordBytes (if n ≤ maxVolume then BitVec.ofNat 32 n else Config.wideVolume n)

/-- A two-byte signed field. -/
def signed2 (x : Int) : List Byte :=
  let w := BitVec.ofInt 16 x
  [w.extractLsb' 8 8, w.extractLsb' 0 8]

/-- R93: a signed volume held at the signed 32-bit limits. -/
def clampSigned (x : Int) : Int := max (-2147483648) (min 2147483647 x)

/-- A four-byte signed field, held at the limits of R93 (log 18). -/
def signed4 (x : Int) : List Byte := wordBytes (BitVec.ofInt 32 (clampSigned x))

/-- A one-byte yes or no. -/
def flag1 (b : Bool) : List Byte := [if b then 1 else 0]

/-- R189: an optional item preceded by one byte that is `mark` when it is present and 0 when not; its
`width` bytes always stand and read 0 when it is absent. -/
def optField {α : Type} (mark : Byte) (width : Nat) (x : Option α) (bytes : α → List Byte) :
    List Byte :=
  match x with
  | some v => mark :: bytes v
  | none => 0 :: List.replicate width 0

/-- R189: a component map as an entry count and its pairs in ascending station. -/
def mapBytes (m : CompMap) : List Byte :=
  byte1 m.length ++ m.flatMap fun kv => byte1 kv.1 ++ byte4 kv.2

/-! ### Reading fields (R149: bytes beyond the end read as 0) -/

/-- The next byte and the rest. -/
def read1 (bs : List Byte) : Nat × List Byte := ((bs.headD 0).toNat, bs.tail)

/-- A two-byte field and the rest. -/
def read2 (bs : List Byte) : Nat × List Byte :=
  let (hi, r) := read1 bs
  let (lo, r) := read1 r
  (hi * 256 + lo, r)

/-- A four-byte field and the rest. -/
def read4 (bs : List Byte) : Nat × List Byte :=
  let (hi, r) := read2 bs
  let (lo, r) := read2 r
  (hi * 65536 + lo, r)

/-- A four-byte parameter as a word. -/
def readWord (bs : List Byte) : Word × List Byte :=
  let (n, r) := read4 bs
  (BitVec.ofNat 32 n, r)

/-- A field of two bytes as it stands in a parameter. -/
def readHalf (bs : List Byte) : Half × List Byte :=
  let (n, r) := read2 bs
  (BitVec.ofNat 16 n, r)

/-- A one-byte parameter as it stands. -/
def readByte (bs : List Byte) : Byte × List Byte := (bs.headD 0, bs.tail)

/-! ### Numbers of objects -/

/-- A hose or tank number, if it is 0 to 3. -/
def quadIndex (n : Nat) : Option (Fin 4) := if h : n < 4 then some ⟨n, h⟩ else none

/-- A class number, if it is 0 to 7. -/
def octIndex (n : Nat) : Option (Fin 8) := if h : n < 8 then some ⟨n, h⟩ else none

/-! ### Bits sent least significant first (R183: port B and the tag links) -/

/-- R183: the levels of a byte's data bits, least significant bit first. -/
def dataLevels (b : Byte) : Oct Bool :=
  ⟨⟨b.getLsbD 0, b.getLsbD 1, b.getLsbD 2, b.getLsbD 3⟩,
    ⟨b.getLsbD 4, b.getLsbD 5, b.getLsbD 6, b.getLsbD 7⟩⟩

/-- R183: the byte that data levels spell, least significant bit first. -/
def levelsByte (l : Oct Bool) : Byte := BitVec.ofBoolListLE l.toList

/-! ### Tag bytes and messages (R50, R187) -/

/-- The number of ones in a byte. -/
def onesIn (b : Byte) : Nat :=
  ((List.range 8).filter fun i => b.getLsbD i).length

/-- R50, R187: the byte that the data bits from a tag reader spell. -/
def tagData (x : TagByte) : Byte := levelsByte x.levels

/-- R50: a good byte has a low start bit, a high stop bit, and an odd number of ones in its data and
parity together. -/
def goodByte (x : TagByte) : Bool :=
  !x.start && x.stop && decide ((onesIn (tagData x) + (if x.parity then 1 else 0)) % 2 = 1)

/-- R187: a byte as a tag link carries it without fault: a low start bit, an odd parity bit and a high stop
bit. -/
def onTagLink (b : Byte) (gap : Bool) : TagByte :=
  ⟨false, dataLevels b, decide (onesIn b % 2 = 0), true, gap⟩

/-- R187: the 11 bits of a byte on a tag link in the order they are sent. -/
def tagBits (x : TagByte) : List Bool := [x.start] ++ x.levels.toList ++ [x.parity, x.stop]

/-- R60, R187: the 11 bits of a lamp command, which the part presents from its start bit on. -/
def lampFrame (l : Lamp) : List Bool := tagBits (onTagLink l.code false)

/-- R187: the page type of an identity page. -/
def identityType : Byte := 0x31

/-- R187: the page type of an hours page. -/
def hoursType : Byte := 0x32

/-- R50: the check byte makes the 8-bit sum of a message 0. -/
def checkByte (bs : List Byte) : Byte := 0 - bs.foldl (· + ·) 0

/-- The toggle as its byte. -/
def toggleByte (t : Bool) : Byte := if t then 1 else 0

/-- R187: the six bytes of an identity page. -/
def identityBytes (vehicle : Half) (cls : ClassId) (toggle : Bool) : List Byte :=
  let body := [identityType, toggleByte toggle] ++ byte2 vehicle.toNat ++ byte1 cls.val
  body ++ [checkByte body]

/-- R187: the seven bytes of an hours page. -/
def hoursBytes (toggle : Bool) (hours : Word) : List Byte :=
  let body := [hoursType, toggleByte toggle] ++ wordBytes hours
  body ++ [checkByte body]

/-- R50: the length of the message a page type begins, if it names a page. -/
def pageLength (t : Byte) : Option Nat :=
  if t = identityType then some 6 else if t = hoursType then some 7 else none

/-- R50, tests 3 and 4 of a complete message: its 8-bit sum is 0 and its fields are in range. -/
def messageValid (m : List Byte) : Bool :=
  decide (m.foldl (· + ·) (0 : Byte) = 0) && decide ((m.getD 1 0).toNat ≤ 1)
    && (if m.headD 0 = identityType then decide ((m.getD 4 0).toNat ≤ 7)
        else decide ((read4 (m.drop 2)).1 ≤ maxHours))

/-- What a byte does to the message in progress (R50). -/
inductive TagOutcome where
  | incomplete (message : List Byte)
  | discard
  | complete (message : List Byte)
deriving DecidableEq, Repr

/-- R50: the outcome of a byte that arrives with `m` already taken. No message is longer than its page. -/
def tagOutcome (m : List Byte) (x : TagByte) : TagOutcome :=
  if goodByte x then
    let m' := m ++ [tagData x]
    match pageLength (m'.headD 0) with
    | none => .discard
    | some n =>
      if m'.length < n then .incomplete m'
      else if m'.length = n ∧ messageValid m' = true then .complete m' else .discard
  else .discard

end Sys2Proof.Machine
end

