-- ==== Sys2Proof/Machine/Codec.lean ====
section
/-!
DEFINITION. The frames of the two yard ports on their lines (R132, R139, R184, R185): what a port sends
for a frame and what it reads from a line.

On port A `true` is recessive. A port B frame is given byte by byte, each byte by the levels of its bits.
-/

namespace Sys2Proof

/-- R183, R139: the byte that a port B byte's data levels spell, least significant bit first. -/
def LineByte.data (x : LineByte) : Byte := Machine.levelsByte x.levels

end Sys2Proof

namespace Sys2Proof.Machine

/-! ### The check (R185) -/

/-- R185: one input bit. -/
def crcStep (r : Half) (b : Bool) : Half :=
  if b != r.getLsbD 15 then (r <<< 1) ^^^ 0x1021 else r <<< 1

/-- R185: the register after the input bits, from all ones; no final inversion. -/
def crc (bits : List Bool) : Half := bits.foldl crcStep 0xFFFF

/-! ### Bits, most significant first (R183: port A and the console) -/

/-- The bits of `n` in `w` places. -/
def bitsOf (w n : Nat) : List Bool :=
  match w with
  | 0 => []
  | k + 1 => n.testBit k :: bitsOf k n

/-- The number that bits spell. -/
def bitsValue (bs : List Bool) : Nat := bs.foldl (fun a b => 2 * a + b.toNat) 0

/-- The next `w` bits as a number, and the rest; none when fewer are left. -/
def readBits (w : Nat) (bs : List Bool) : Option (Nat × List Bool) :=
  if w ≤ bs.length then some (bitsValue (bs.take w), bs.drop w) else none

/-- The next `k` bytes and the rest. -/
def readBytes (k : Nat) (bs : List Bool) : Option (List Byte × List Bool) :=
  match k with
  | 0 => some ([], bs)
  | j + 1 =>
    match readBits 8 bs with
    | none => none
    | some (b, r) =>
      match readBytes j r with
      | none => none
      | some (t, r') => some (BitVec.ofNat 8 b :: t, r')

/-- The payload as bits. -/
def payloadBits (bs : List Byte) : List Bool := bs.flatMap fun b => bitsOf 8 b.toNat

/-! ### Frames that a port can send -/

/-- A frame of a station 1 to 16 with at most 64 payload bytes (R125, R132). -/
def Frame.wf (f : Frame) : Bool :=
  decide (1 ≤ f.origin) && decide (f.origin ≤ 16) && decide (f.payload.length ≤ 64)

/-! ### Port A (R132, R138, R184) -/

/-- R185, port A: the bits under the check. -/
def checkedA (f : Frame) : List Bool :=
  bitsOf 4 f.kind.toNat ++ bitsOf 8 f.payload.length ++ payloadBits f.payload

/-- R132: the contention field. -/
def contentionBits (f : Frame) : List Bool :=
  bitsOf 2 f.priority.toNat ++ bitsOf 4 (f.origin - 1)

/-- R132, R184: the bits of a frame on port A, from the dominant start bit to the end field. -/
def encodeA (f : Frame) : List Bool :=
  [false] ++ contentionBits f ++ [f.relayed] ++ checkedA f ++ bitsOf 16 (crc (checkedA f)).toNat
    ++ List.replicate 8 true

/-- R138: the frame that the bits after the start bit hold, if it is valid. -/
def decodeBodyA (bs : List Bool) : Option Frame :=
  match readBits 2 bs with
  | none => none
  | some (prio, b1) =>
  match readBits 4 b1 with
  | none => none
  | some (station, b2) =>
  match readBits 1 b2 with
  | none => none
  | some (relayed, b3) =>
  match readBits 4 b3 with
  | none => none
  | some (kind, b4) =>
  match readBits 8 b4 with
  | none => none
  | some (len, b5) =>
  if 64 < len then none else
  match readBytes len b5 with
  | none => none
  | some (payload, b6) =>
  match readBits 16 b6 with
  | none => none
  | some (check, b7) =>
  if check = (crc (b3.take (12 + 8 * len))).toNat ∧ b7.take 8 = List.replicate 8 true then
    some ⟨BitVec.ofNat 2 prio, station + 1, decide (relayed = 1), BitVec.ofNat 4 kind, payload⟩
  else none

/-- R138, R184: the frame that the bits of a line hold from a dominant start bit on, if it is valid. -/
def decodeA (bs : List Bool) : Option Frame :=
  match bs with
  | false :: body => decodeBodyA body
  | _ => none

/-! ### Port B (R139, R142, R184) -/

/-- R139: the bits of a byte on port B: a low start bit, the data bits and a high stop bit. -/
def lineBitsB (b : Byte) : List Bool := [false] ++ (dataLevels b).toList ++ [true]

/-- R139: a byte from a modem without fault. -/
def onLine (b : Byte) (gap : Bool) : LineByte := ⟨dataLevels b, true, gap⟩

/-- R184: the header byte. -/
def headerB (f : Frame) : Byte := BitVec.ofNat 8 (f.priority.toNat * 64 + (f.origin - 1))

/-- R184: the second byte. -/
def secondB (f : Frame) : Byte := BitVec.ofNat 8 (f.relayed.toNat * 128 + f.kind.toNat)

/-- R185, port B: the bits under the check, given a header byte, a kind, a length and a payload. -/
def checkedB (header : Byte) (kind len : Nat) (payload : List Byte) : List Bool :=
  bitsOf 8 header.toNat ++ bitsOf 4 kind ++ bitsOf 8 len ++ payloadBits payload

/-- R139: the bytes of a frame on port B. -/
def encodeB (f : Frame) : List Byte :=
  let n := f.payload.length
  [headerB f, secondB f] ++ byte1 n ++ f.payload
    ++ byte2 (crc (checkedB (headerB f) f.kind.toNat n f.payload)).toNat

/-- R142: the frame that bytes from the modem hold, if it is valid. Bytes after the frame's last check
byte belong to no frame here. -/
def decodeB (bs : List LineByte) : Option Frame :=
  match bs with
  | h :: k :: l :: rest =>
    let n := l.data.toNat
    let kind := k.data.toNat % 16
    let payload := (rest.take n).map LineByte.data
    let check := ((rest.drop n).take 2).map LineByte.data
    if n ≤ 64 ∧ n + 2 ≤ rest.length
        ∧ (bs.take (n + 5)).all (fun x => x.stopHigh) = true
        ∧ (bs.tail.take (n + 4)).all (fun x => !x.gapBefore) = true
        ∧ check = byte2 (crc (checkedB h.data kind n payload)).toNat then
      some ⟨BitVec.ofNat 2 (h.data.toNat / 64), h.data.toNat % 16 + 1,
        decide (128 ≤ k.data.toNat), BitVec.ofNat 4 kind, payload⟩
    else none
  | _ => none

/-- A frame's bytes as they come from a modem without fault: stop bits high, one gap before the first. -/
def onLineB (bs : List Byte) : List LineByte :=
  match bs with
  | [] => []
  | b :: t => onLine b true :: t.map fun x => onLine x false

end Sys2Proof.Machine
end

