-- ==== Sys2Proof/Machine/MeterUnit.lean ====
section
/-!
DEFINITION. The meter unit (Chapter 2): the quadrature decoder, the stages of a dispense window, the
temperature hold, late processing, and the resets of a unit at entry to HOLDING, at an end and at Restart.

Everything here acts on one unit; what the report does to the hose stands with the hose.
-/

namespace Sys2Proof.Machine

/-! ### Quadrature decoding (R31, R33) -/

/-- Section 2.3: the phase of two channel levels, high being `true`. -/
def phaseOf (a b : Bool) : MeterPhase :=
  match a, b with
  | false, false => .p0
  | true, false => .p1
  | true, true => .p2
  | false, true => .p3

/-- Section 2.3: the level of channel A in a phase. -/
def channelA (x : MeterPhase) : Bool :=
  match x with
  | .p1 | .p2 => true
  | .p0 | .p3 => false

/-- Section 2.3: the level of channel B in a phase. -/
def channelB (x : MeterPhase) : Bool :=
  match x with
  | .p2 | .p3 => true
  | .p0 | .p1 => false

/-- R31: both channels differ: a phase error. -/
def bothChange (old new : MeterPhase) : Bool :=
  decide (channelA old ≠ channelA new) && decide (channelB old ≠ channelB new)

/-- R31: the change of the net count: the boundary between P0 and P1. -/
def netStep (old new : MeterPhase) : Int :=
  match old, new with
  | .p0, .p1 => 1
  | .p1, .p0 => -1
  | _, _ => 0

/-- R31: a rising edge of channel A. -/
def aRises (old new : MeterPhase) : Bool := channelA new && !channelA old

/-- R33: whether a count of this change would pass its limit. -/
def saturates (net : Int) (aRise : Nat) : Bool :=
  decide (windowLimit < net.natAbs) || decide (windowLimit < aRise)

/-- R31, R33: the decoder takes a new phase and counts it. A saturated window counts no more; a phase
error is marked all the same. -/
def stepDecoder (new : MeterPhase) (m : Meter) : Meter :=
  let net := m.net + netStep m.phase new
  let aRise := m.aRise + (aRises m.phase new).toNat
  let marked := { m with phase := new, phaseError := m.phaseError || bothChange m.phase new }
  if m.saturated then marked
  else
    { marked with
      net := if windowLimit < net.natAbs then m.net else net
      aRise := if windowLimit < aRise then m.aRise else aRise
      saturated := saturates net aRise }

/-- R30: the counts and marks of a window cleared and the next window started. -/
def clearWindow (m : Meter) : Meter :=
  { m with
    net := 0, aRise := 0, phaseError := false, saturated := false, windowTimer := some flowWindowMs }

/-- R32: the count of the window. -/
def windowCount (m : Meter) : Int := if m.phaseError then (m.aRise : Int) else m.net

/-! ### Bands and correction (R35, R36) -/

/-- R35: the raw flow in L/min. -/
def rawFlow (kh : Nat) (pw : Int) : Nat := pw.natAbs * 24000 / kh

/-- R35, R36: the correction of the band of a flow. -/
def bandCorrection (c : HoseCfg) (fr : Nat) : Int :=
  if fr < c.b1 then c.c0
  else if fr < c.b2 then c.c1
  else if fr < c.b3 then c.c2
  else c.c3

/-- R36: the corrected credit of a window. -/
def windowCredit (c : HoseCfg) (pw : Int) : Int :=
  pw * (10000 + bandCorrection c (rawFlow c.kh pw))

/-- R36: what the clamp at 0 discards, in cL. -/
def discarded (c : HoseCfg) (sum : Int) : Nat := (-sum).toNat / c.kh

/-! ### Temperature (R39, R40, R41) -/

/-- R39: whether a sample is valid. -/
def validSample (x : Int) : Bool := decide (probeLow ≤ x) && decide (x ≤ probeHigh)

/-- R39: outside a dispense a valid sample only replaces the held temperature. -/
def holdSample (x : Int) (m : Meter) : Meter := if validSample x then { m with held := some x } else m

/-- R39, R40: a sample in a dispense; the T10 of the window is stored as T10 last used. -/
def takeSample (x : Int) (m : Meter) : Meter :=
  if validSample x then
    { m with held := some x, invalidRun := 0, fallback := false, t10 := some x }
  else
    let run := min invalidRunLimit (m.invalidRun + 1)
    let fallback := m.fallback || decide (run = invalidRunLimit)
    { m with
      invalidRun := run
      fallback := fallback
      t10 := some (if fallback then fallbackTemp else m.held.getD fallbackTemp) }

/-- Rounded to nearest, an exact half away from zero. -/
def roundTenth (x : Int) : Int :=
  if 0 ≤ x then (((x.natAbs + 5) / 10 : Nat) : Int) else -(((x.natAbs + 5) / 10 : Nat) : Int)

/-- R41: the compensation factor in ppm. -/
def factor (alpha : Nat) (t : Int) : Int := 1000000 - roundTenth ((alpha : Int) * (t - 150))

/-! ### A dispense window (R32 to R42) -/

/-- R36, R37, R38: C, G, previous G and the reverse total after a window. -/
def creditWindow (c : HoseCfg) (m : Meter) : Meter :=
  let cNew := ((m.c : Int) + windowCredit c (windowCount m)).toNat
  let g := cNew / c.kh
  { m with
    c := cNew
    g := g
    prevG := g
    reverseTotal := m.reverseTotal + (m.prevG - g) }

/-- R42: A and S after a window whose gross volume went from `g0` to the unit's G. -/
def compensate (alpha g0 : Nat) (m : Meter) : Meter :=
  let f := factor alpha (m.t10.getD fallbackTemp)
  let acc := ((m.acc : Int) + ((m.g : Int) - (g0 : Int)) * f).toNat
  { m with acc := acc, s := min maxVolume (acc / 1000000) }

/-- R32: the phase-error run after a window. -/
def runAfter (m : Meter) : Nat := if m.phaseError then min errorRunLimit (m.errorRun + 1) else 0

/-- What a window reports (R43). The new S is in the unit. -/
structure WindowReport where
  flowed : Bool
  fault : Bool
  reverse : Bool
  meterWarn : Bool
  uncompensated : Bool
  reverseDiscarded : Nat
deriving DecidableEq, Repr

/-- R32 to R43: the unit after a dispense window with the given probe sample. -/
def dispenseWindow (c : HoseCfg) (alpha : Nat) (sample : Int) (m : Meter) : Meter :=
  let m1 := compensate alpha m.prevG (takeSample sample (creditWindow c m))
  let run := runAfter m
  clearWindow
    { m1 with
      errorRun := run
      faultReported := m.faultReported || decide (run = errorRunLimit)
      reverseReported := m.reverseReported || decide (reverseLimit < m1.reverseTotal) }

/-- R43: the report of that window. -/
def windowReport (c : HoseCfg) (alpha : Nat) (sample : Int) (m : Meter) : WindowReport :=
  let after := dispenseWindow c alpha sample m
  { flowed := decide (windowCount m ≠ 0)
    fault := after.faultReported && !m.faultReported
    reverse := after.reverseReported && !m.reverseReported
    meterWarn := m.phaseError || m.saturated
    uncompensated := after.fallback
    reverseDiscarded := discarded c ((m.c : Int) + windowCredit c (windowCount m)) }

/-! ### Late processing (R45) -/

/-- R45: the late pulses after a late window. -/
def lateWindow (m : Meter) : Meter :=
  clearWindow { m with latePulses := ((m.latePulses : Int) + windowCount m).toNat }

/-- R45: the late volume of the period, in gross cL. -/
def lateVolume (c : HoseCfg) (m : Meter) : Nat := m.carried + m.latePulses * 10000 / c.kh

/-! ### Start of a dispense, end and Restart (R44, R45, R46) -/

/-- The dispense state cleared (R28). -/
def clearDispense (m : Meter) : Meter :=
  { m with
    errorRun := 0, c := 0, g := 0, prevG := 0, reverseTotal := 0, acc := 0, s := 0, t10 := none
    invalidRun := 0, fallback := false, faultReported := false, reverseReported := false }

/-- R44: the unit at entry to HOLDING, after R30 has dealt with the window in progress. -/
def openDispense (m : Meter) : Meter :=
  clearWindow
    { clearDispense m with
      fallback := m.held.isNone, latePulses := 0, carried := 0, lateActive := false }

/-- R45: a late-volume period starts; the counts of the window in progress are kept. -/
def openLate (carried : Nat) (m : Meter) : Meter :=
  { clearDispense m with
    latePulses := 0, carried := carried, lateActive := true, windowTimer := some flowWindowMs }

/-- R46: a unit of a fitted hose at Restart, after the volumes have been handed to end processing. -/
def restartMeter (m : Meter) : Meter :=
  clearWindow { clearDispense m with latePulses := 0, carried := 0 }

end Sys2Proof.Machine
end

