-- ==== Sys2Proof/Machine/Flags.lean ====
section
/-!
DEFINITION. The flag bytes: the status byte of the console port (R163), the dispense flags (R183), the
presence marks of the notices (R186), and the hose outputs of R3.
-/

namespace Sys2Proof.Machine

/-- A byte from its bits, bit 7 first. -/
def bits8 (b7 b6 b5 b4 b3 b2 b1 b0 : Bool) : Byte :=
  BitVec.ofBool b7 ++ BitVec.ofBool b6 ++ BitVec.ofBool b5 ++ BitVec.ofBool b4
    ++ BitVec.ofBool b3 ++ BitVec.ofBool b2 ++ BitVec.ofBool b1 ++ BitVec.ofBool b0

/-! ### The status byte -/

/-- R163: a byte may be transferred in COMMAND and in RESULT. -/
def Console.ready (k : Console) : Bool :=
  match k.phase with
  | .command | .result => true
  | .execution => false

/-- R163: the part has a byte for the host in RESULT. -/
def Console.dir (k : Console) : Bool := decide (k.phase = .result)

/-- R163: a command is in progress: its code has been taken and its EXECUTION has not ended. -/
def Console.busy (k : Console) : Bool :=
  match k.phase with
  | .command => k.command.isSome
  | .execution => true
  | .result => false

/-- R163: the event queue holds at least one entry. -/
def Console.evt (k : Console) : Bool := !k.events.isEmpty

/-- R163, section 12.5: READY, DIR, BUSY and EVT in bits 7 to 4. -/
def Console.statusByte (k : Console) : Byte :=
  bits8 k.ready k.dir k.busy k.evt false false false false

/-- R167: the condition under which the interrupt line is asserted. -/
def Console.interrupt (k : Console) : Bool :=
  k.evt || (decide (k.phase = .result) && !k.codeRead)

/-! ### Dispense flags -/

/-- R183: MANUAL in bit 0 to CAPPED in bit 6. -/
def DispenseFlags.byte (f : DispenseFlags) : Byte :=
  bits8 false f.capped f.limp f.isolated f.meterWarn f.overrun f.uncompensated f.manual

/-! ### Presence marks (R186) -/

/-- Bit 0: class. -/
def markClass : Byte := 0x01
/-- Bit 1: hours at service. -/
def markHours : Byte := 0x02
/-- Bit 2: latest hours. -/
def markLatest : Byte := 0x04
/-- Bit 3: opening. -/
def markOpening : Byte := 0x08
/-- Bit 4: gauge. -/
def markGauge : Byte := 0x10

/-- Whether a presence byte has a mark. -/
def marked (presence mark : Byte) : Bool := decide (presence &&& mark ≠ 0)

/-- R150: whether every mark set is one of `assigned`. -/
def marksWithin (presence assigned : Byte) : Bool := decide (presence &&& ~~~assigned = 0)

/-- A mark when the field is present. -/
def markIf {α : Type} (mark : Byte) (x : Option α) : Byte := if x.isSome then mark else 0

/-! ### Outputs of a hose (R3, section 1.2) -/

def HoseState.pumpOn (x : HoseState) : Bool :=
  match x with
  | .running | .slowing | .paused => true
  | .idle | .lifted | .checking | .holding | .closing | .ended | .refused | .disabled => false

def HoseState.mainOpen (x : HoseState) : Bool :=
  match x with
  | .running => true
  | .slowing | .paused | .idle | .lifted | .checking | .holding | .closing | .ended | .refused
  | .disabled => false

def HoseState.slowOpen (x : HoseState) : Bool :=
  match x with
  | .running | .slowing => true
  | .paused | .idle | .lifted | .checking | .holding | .closing | .ended | .refused
  | .disabled => false

/-- Section 1.2: the lamp command at entry, if the row names one. -/
def HoseState.entryLamp (x : HoseState) : Option Lamp :=
  match x with
  | .idle => some .off
  | .lifted => some .amber
  | .checking => none
  | .holding => none
  | .running => some .green
  | .slowing => none
  | .paused => some .redFlash
  | .closing => some .amber
  | .ended => some .off
  | .refused => some .red
  | .disabled => some .off

/-- R70, R110, R122: the states in which a hose has an open dispense. -/
def HoseState.dispensing (x : HoseState) : Bool :=
  match x with
  | .holding | .running | .slowing | .paused | .closing => true
  | .idle | .lifted | .checking | .ended | .refused | .disabled => false

/-- R15: the states in which a hose issues. -/
def HoseState.issuing (x : HoseState) : Bool :=
  match x with
  | .running | .slowing | .paused => true
  | .idle | .lifted | .checking | .holding | .closing | .ended | .refused | .disabled => false

end Sys2Proof.Machine
end

