-- ==== Sys2Proof/Machine/TagLink.lean ====
section
/-!
DEFINITION. The tag link (Chapter 3): its modes, its line, the consistency tracker, the messages it
discards and the lamp commands it sends. What a report does to the hose stands with the hose.
-/

namespace Sys2Proof.Machine

/-! ### Modes (R48) -/

/-- R48: the mode of a hose state, for a manual or a tag-identified dispense. -/
def modeOf (x : HoseState) (manual : Bool) : TagMode :=
  match x with
  | .lifted => .seek
  | .holding => if manual then .manual else .wait
  | .running | .slowing => if manual then .manual else .watch
  | .paused => .search
  | .idle | .checking | .closing | .ended | .refused | .disabled => .quiet

/-- The message in progress is dropped and its gap timer stopped; no byte of it, or of a discarded one, is still
to come (log 36). -/
def dropMessage (t : TagLink) : TagLink :=
  { t with message := [], gapTimer := none, leftover := .none }

/-- R48: what the entry to a mode does. WAIT is entered only from CHECKING. -/
def enterMode (m : TagMode) (t : TagLink) : TagLink :=
  match m with
  | .quiet =>
    { dropMessage t with mode := .quiet, watchTimer := none, tracker := [], accepted := none }
  | .seek => { t with mode := .seek, watchTimer := none, tracker := [], accepted := none }
  | .wait => { t with mode := .wait, watchTimer := none, hoursAdopted := false }
  | .watch => { t with mode := .watch, watchTimer := some tagWatchMs }
  | .search => { t with mode := .search, watchTimer := none, tracker := [] }
  | .manual => { t with mode := .manual, watchTimer := none, tracker := [] }

/-- R48: a change of mode; the same mode is no change. -/
def setMode (m : TagMode) (t : TagLink) : TagLink :=
  settleLine (if t.mode = m then t else enterMode m t)

/-- R48: entry to QUIET from SEEK at entry to CHECKING keeps the tracker and the accepted identity. -/
def passChecking (t : TagLink) : TagLink :=
  settleLine { dropMessage t with mode := .quiet, watchTimer := none }

/-! ### The consistency tracker (R53, R54) -/

/-- R53: the tracker holds the last three entries. -/
def track (e : TagEntry) (l : List TagEntry) : List TagEntry := (l ++ [e]).drop (l.length - 2)

/-- R53: a page that repeats the newest entry. -/
def isRepeat (e : TagEntry) (l : List TagEntry) : Bool := decide (l.getLast? = some e)

/-- R54: the identity of a consistent run, if the tracker holds one. -/
def consistentRun (l : List TagEntry) : Option Identity :=
  match l with
  | [a, b, c] =>
    if a.vehicle = b.vehicle ∧ b.vehicle = c.vehicle ∧ a.cls = b.cls ∧ b.cls = c.cls
        ∧ a.toggle ≠ b.toggle ∧ b.toggle ≠ c.toggle ∧ namesVehicle c.vehicle = true then
      some ⟨c.vehicle, c.cls⟩
    else none
  | _ => none

/-- R55: whether an hours page with a toggle is adopted. -/
def adopts (t : TagLink) (toggle : Bool) : Bool :=
  !t.hoursAdopted &&
    match t.accepted, t.tracker.getLast? with
    | some i, some e =>
      decide (e.vehicle = i.vehicle ∧ e.cls = i.cls ∧ e.toggle = toggle)
    | _, _ => false

/-- R53, R55: the modes in which an hours page may be adopted. -/
def takesHours (m : TagMode) : Bool :=
  match m with
  | .wait | .watch | .search => true
  | .quiet | .seek | .manual => false

/-- R53: the modes in which an identity page enters the tracker. -/
def takesIdentity (m : TagMode) : Bool :=
  match m with
  | .seek | .wait | .watch | .search => true
  | .quiet | .manual => false

/-! ### Messages -/

/-- R49, R51, R59: whether a byte from the reader can reach this hose's link: the line is in OPEN, or in
HELD in a mode that enables the reader. In HELD the byte's start bit came before the part held the clock
for a lamp command, or data had risen after an overrun (log 22). -/
def receiving (s : State) (h : HoseId) : Bool :=
  s.fittedRunning h && decide ((s.tag h).mode ≠ .quiet)
    && (decide ((s.tag h).line = .opened) || decide ((s.tag h).line = .held))

/-- Whether a page can complete now: the bytes held are the beginning of it. -/
def completes (s : State) (h : HoseId) (page : List Byte) : Bool :=
  receiving s h && (s.tag h).message.isPrefixOf page

/-- R49, R51: a message has ended on a line on which data is high: it is dropped, and the line settles. -/
def endMessage (t : TagLink) : TagLink := settleLine { dropMessage t with dataLow := false }

/-- R50: what is still to come of a message discarded at the byte `x`, with `m` already taken. Its length
is known once a good first byte has named its page type (log 36). -/
def leftoverOf (m : List Byte) (x : TagByte) : Leftover :=
  let len :=
    match m with
    | [] => if goodByte x then pageLength (tagData x) else none
    | b :: _ => pageLength b
  match len with
  | none => .toGap
  | some n => if m.length + 1 < n then .bytes (n - (m.length + 1)) else .none

/-- R50: whether a byte belongs to a message that has been discarded. -/
def ofDiscarded (t : TagLink) (x : TagByte) : Bool := decide (t.leftover ≠ .none) && !x.gapBefore

/-- R50: one byte of a discarded message has passed. -/
def passByte (t : TagLink) : TagLink :=
  match t.leftover with
  | .bytes n => { t with leftover := if 1 < n then .bytes (n - 1) else .none }
  | .toGap | .none => t

/-- R47, R50: one more discarded message. -/
def countDiscard (h : HoseId) (s : State) : State :=
  s.modHoseCounters h fun c => { c with tagErrors := c.tagErrors.inc }

/-- R50: the message is discarded at the byte `x`, and counted once. -/
def discardAt (h : HoseId) (x : TagByte) (s : State) : State :=
  countDiscard h (s.modTag h fun t => { endMessage t with leftover := leftoverOf t.message x })

/-- R50: the message whose gap timer has expired is discarded and counted. -/
def discardMessage (h : HoseId) (s : State) : State := countDiscard h (s.modTag h endMessage)

/-- R50, step 2: the gap timer, if it runs, has expired: the message in progress is discarded. -/
def gapExpired (h : HoseId) (s : State) : State :=
  if (s.tag h).gapTimer.isSome then discardMessage h s else s

/-- R51: an overrun: the message is discarded and counted, and the line stays in HELD until data rises. -/
def overrunLine (h : HoseId) (s : State) : State :=
  countDiscard h (s.modTag h fun t => settleLine { dropMessage t with dataLow := true })

/-- R47: the tag link fault count rises. -/
def countTagFault (h : HoseId) (s : State) : State :=
  s.modHoseCounters h fun c => { c with tagFaults := c.tagFaults.inc }

/-! ### Lamp commands (R59, R60) -/

/-- R59: whether the pending command can be sent. -/
def canSendLamp (t : TagLink) : Bool :=
  aboutToSend t && (decide (t.line = .held) || decide (t.line = .opened))

/-- R59, R60: the pending command becomes the command in flight, with the 11 bits of its byte.
The part drives data, so a low that an overrun left no longer shows (log 37), and a discarded message has no bytes
still to come afterwards: no message is received in SENDING (log 36). -/
def sendLamp (t : TagLink) : TagLink :=
  { t with
    line := .sending, dataLow := false, leftover := .none
    inFlight := t.pendingLamp, lampBits := (t.pendingLamp.map lampFrame).getD []
    pendingLamp := none, lampTimer := some lampMs }

/-- R49: the line leaves SENDING or BREAK for the phase that the conditions call for. -/
def restLine (t : TagLink) : TagLink := { t with line := restingLine t }

/-- R60: the command in flight has completed or is dropped, and the line takes the phase of R49. -/
def endLamp (t : TagLink) : TagLink := 
  restLine { t with inFlight := none, lampBits := [], lampTimer := none }

/-! ### Restart (R61) -/

/-- R61: a tag link after Restart, for the hose state that Restart leaves. -/
def restartTag (x : HoseState) (t : TagLink) : TagLink :=
  settleLine
    { line := .held
      dataLow := false
      mode := modeOf x false
      message := []
      leftover := .none
      buffer := none
      tracker := []
      accepted := none
      hoursAdopted := false
      watchTimer := none
      gapTimer := none
      inFlight := none
      lampBits := []
      lampTimer := none
      pendingLamp := x.entryLamp
      lastLamp := x.entryLamp.getD t.lastLamp }

end Sys2Proof.Machine
end

