-- ==== Sys2Proof/Machine/Stock.lean ====
section
/-!
DEFINITION. The hold list (R116 to R121) and the tank records (Chapter 6): book, gauge, variance, held
amount, effective stock and the stage that follows from it.
-/

namespace Sys2Proof.Machine

/-! ### The hold list (R116) -/

/-- The entry of a (station, hose) pair. -/
def findHold (station : Nat) (h : HoseId) (l : List HoldEntry) : Option HoldEntry :=
  l.find? fun e => decide (e.station = station ∧ e.hose = h)

/-- The order of the list: station, then hose (the order of R169). -/
def holdBefore (a b : HoldEntry) : Bool :=
  decide (a.station < b.station) || (decide (a.station = b.station) && decide (a.hose < b.hose))

/-- R116: an entry is written for its pair, in place of one that holds the pair. -/
def putHold (e : HoldEntry) (l : List HoldEntry) : List HoldEntry :=
  match l with
  | [] => [e]
  | x :: t =>
    if x.station = e.station ∧ x.hose = e.hose then e :: t
    else if holdBefore e x then e :: x :: t
    else x :: putHold e t

/-- The list with the pair's entry taken out. -/
def dropHold (station : Nat) (h : HoseId) (l : List HoldEntry) : List HoldEntry :=
  l.filter fun e => decide (¬(e.station = station ∧ e.hose = h))

/-- The list in strict order, so at most one entry for each pair. -/
def holdsOrdered : List HoldEntry → Bool
  | [] => true
  | _ :: [] => true
  | x :: y :: t => holdBefore x y && holdsOrdered (y :: t)

/-- R117: the own entry of a hose. -/
def ownHold (s : State) (h : HoseId) : Option HoldEntry := findHold s.ownNumber h s.holds

/-- R117: the own entry of a hose is removed. -/
def removeOwnHold (h : HoseId) (s : State) : State :=
  { s with holds := dropHold s.ownNumber h s.holds }

/-- R118: the age of a hose's own entry starts again at 0. -/
def restartAge (h : HoseId) (s : State) : State :=
  { s with holds := s.holds.map fun e =>
      if e.station = s.ownNumber ∧ e.hose = h then { e with age := 0 } else e }

/-- R98: the remaining preset of an entry; a dispense's S is the meter unit's. -/
def remaining (s : State) (e : HoldEntry) : Nat :=
  if e.station = s.ownNumber then e.preset - (s.meter e.hose).s else e.preset

/-! ### The stock of a tank (R93, R98) -/

/-- R93: the book, unclamped. -/
def book (t : Tank) : Int :=
  (t.opening : Int) + (CompMap.sum t.deliveryMap : Int) - (CompMap.sum t.issueMap : Int)

/-- R98: the gauge estimate. -/
def gaugeEstimate (t : Tank) : Option Int :=
  t.gauge.map fun g =>
    (g.volume : Int) - ((CompMap.sum t.issueMap : Int) - (g.issuedAt : Int))
      + ((CompMap.sum t.deliveryMap : Int) - (g.deliveredAt : Int))

/-- R98: the held amount of a tank. -/
def heldAmount (s : State) (t : TankId) : Nat :=
  ((s.holds.filter fun e => decide (e.tank = t)).map (remaining s)).foldl (· + ·) 0

/-- R98: the effective stock, absent with opening-pending set and no gauge. -/
def effectiveStock (s : State) (t : TankId) : Option Int :=
  let x := s.tank t
  let held : Int := heldAmount s t
  match x.openingPending, gaugeEstimate x with
  | false, none => some (book x - held)
  | false, some g => some (min (book x) g - held)
  | true, some g => some (g - held)
  | true, none => none

/-! ### Stages (R99) -/

/-- The lower bound of a stage; CUTOFF has none. -/
def stageBound (c : TankCfg) (x : Stage) : Option Int :=
  match x with
  | .normal => some c.reserve
  | .reserve => some c.critical
  | .critical => some c.cutoff
  | .cutoff => none

/-- The stage whose band holds `e`. -/
def stageBand (c : TankCfg) (e : Int) : Stage :=
  if (c.reserve : Int) ≤ e then .normal
  else if (c.critical : Int) ≤ e then .reserve
  else if (c.cutoff : Int) ≤ e then .critical
  else .cutoff

/-- Whether `e` reaches a bound by at least the hysteresis. -/
def reaches (c : TankCfg) (bound : Nat) (e : Int) : Bool :=
  decide ((bound : Int) + (c.hysteresis : Int) ≤ e)

/-- R99, right column: the best stage better than the held one whose bound `e` reaches by the
hysteresis; the held stage if there is none. -/
def stageImproved (c : TankCfg) (held : Stage) (e : Int) : Stage :=
  match held with
  | .normal => .normal
  | .reserve => if reaches c c.reserve e then .normal else .reserve
  | .critical =>
    if reaches c c.reserve e then .normal
    else if reaches c c.critical e then .reserve else .critical
  | .cutoff =>
    if reaches c c.reserve e then .normal
    else if reaches c c.critical e then .reserve
    else if reaches c c.cutoff e then .critical else .cutoff

/-- R99: the stage derived from the effective stock and the held stage. -/
def deriveStage (c : TankCfg) (held : Stage) (e : Option Int) : Stage :=
  match e with
  | none => .cutoff
  | some x =>
    match stageBound c held with
    | some b => if x < b then stageBand c x else stageImproved c held x
    | none => stageImproved c held x

/-- The inputs of a tank's effective stock (R99). `held` gives each hold entry on the tank, its age left
out, with the S of its hose if it is an own entry: an entry replaced by one of the same preset, or an S
that moves past the preset, is a change of input even where the held amount stays. -/
structure StockInputs where
  opening : Nat
  openingPending : Bool
  issueMap : CompMap
  deliveryMap : CompMap
  gauge : Option Gauge
  held : List (HoldEntry × Nat)
deriving DecidableEq, Repr

/-- The hold entries on a tank as inputs of its effective stock. -/
def heldInputs (s : State) (t : TankId) : List (HoldEntry × Nat) :=
  (s.holds.filter fun e => decide (e.tank = t)).map fun e =>
    ({ e with age := 0 }, if e.station = s.ownNumber then (s.meter e.hose).s else 0)

/-- The inputs as they stand. -/
def stockInputs (s : State) (t : TankId) : StockInputs :=
  let x := s.tank t
  ⟨x.opening, x.openingPending, x.issueMap, x.deliveryMap, x.gauge, heldInputs s t⟩

/-! ### Variance and gauges (R96, R97) -/

/-- R97: the variance is assessed at a gauge adoption of the given volume. -/
def assessVariance (t : TankId) (volume : Nat) (s : State) : State :=
  let x := s.tank t
  if x.openingPending then
    s.modTank t fun y => { y with variance := none, varianceFlag := false }
  else
    let v := (volume : Int) - book x
    let limit := (s.tankCfg t).varianceLimit
    let flag := decide (limit < v.natAbs)
    let s1 := s.modTank t fun y => { y with variance := some v, varianceFlag := flag }
    if flag || x.varianceFlag then post t.val (.variance v limit flag) s1 else s1

/-- R96: a gauge is set, with the present sums as its snapshots, and the variance is assessed. The volume
is held at the tank's capacity. -/
def adoptGauge (t : TankId) (count origin volume : Nat) (s : State) : State :=
  let v := min volume (s.tankCfg t).capacity
  assessVariance t v (s.modTank t fun x =>
    { x with
      gauge := some ⟨count, origin, v, CompMap.sum x.issueMap, CompMap.sum x.deliveryMap⟩ })

/-- R95, R102, R104: a new period: maps emptied, gauge and variance absent, the flag clear. An opening
that is absent is 0 and pending. -/
def newPeriod (n : Nat) (opening : Option Nat) (x : Tank) : Tank where
  period := n
  opening := opening.getD 0
  openingPending := opening.isNone
  issueMap := []
  deliveryMap := []
  gauge := none
  variance := none
  varianceFlag := false
  stage := x.stage

/-- R102, step 4; R103, step 2: an entry (station, issued, delivered) on a tank. -/
def mergeStockEntry (x : Tank) (e : Nat × Nat × Nat) : Tank :=
  { x with
    issueMap := CompMap.merge x.issueMap e.1 e.2.1
    deliveryMap := CompMap.merge x.deliveryMap e.1 e.2.2 }

/-- R103, step 1: the opening of an equal period. -/
def mergeOpening (opening : Option Nat) (x : Tank) : Tank :=
  match opening with
  | none => x
  | some o =>
    if x.openingPending then { x with opening := o, openingPending := false }
    else if o < x.opening then { x with opening := o } else x

/-- R103, step 3: whether a carried gauge (count, origin) ranks above the held one. -/
def outranks (count origin : Nat) (held : Option Gauge) : Bool :=
  match held with
  | none => true
  | some g => decide (g.count < count) || (decide (g.count = count) && decide (g.origin < origin))

end Sys2Proof.Machine
end

