-- ==== Sys2Proof/Machine/Vehicle.lean ====
section
/-!
DEFINITION. The vehicle table (Chapter 4) and the service intervals (Chapter 5): finding, creating,
changing and removing records, their totals, their service status, and the station shift.

A change of a record goes through `editVehicle`, which keeps the last-touched tick (R62). The service
status is derived by `deriveStatus` at the end of an event (R82).
-/

namespace Sys2Proof.Machine

/-! ### The table in ascending vehicle number (R63) -/

/-- A record placed at the position of its number. -/
def insertRecord (r : VehicleRecord) (l : List VehicleRecord) : List VehicleRecord :=
  match l with
  | [] => [r]
  | x :: t => if r.vehicle < x.vehicle then r :: x :: t else x :: insertRecord r t

/-- The records in strictly ascending vehicle number. -/
def ascending : List VehicleRecord → Bool
  | [] => true
  | _ :: [] => true
  | x :: y :: t => decide (x.vehicle < y.vehicle) && ascending (y :: t)

/-- R63: the record of a vehicle, or its absence. -/
def findVehicle (v : Nat) (s : State) : Option VehicleRecord :=
  s.vehicles.find? fun r => decide (r.vehicle = v)

/-- R62, R65: a record as it is created. -/
def newRecord (v : Nat) (cls : Option ClassId) (o : Origin) (tick : Nat) : VehicleRecord where
  vehicle := v
  cls := cls.getD 0
  settled := cls.isSome
  shift := 0
  shiftMap := []
  generation := 0
  hoursAtService := none
  serviceMap := []
  latestHours := none
  pendingHours := none
  status := .ok
  origin := o
  touched := tick

/-- R65: a record is created. -/
def createVehicle (v : Nat) (cls : Option ClassId) (o : Origin) (s : State) : State :=
  { s with vehicles := insertRecord (newRecord v cls o s.tick) s.vehicles }

/-- R62: a record as an event leaves it: the tick is the present one if any field has changed. -/
def retouch (tick : Nat) (old new : VehicleRecord) : VehicleRecord :=
  if new = old then old else { new with touched := tick }

/-- A change of the record of a vehicle. -/
def editVehicle (v : Nat) (f : VehicleRecord → VehicleRecord) (s : State) : State :=
  { s with vehicles := s.vehicles.map fun r =>
      if r.vehicle = v then retouch s.tick r (f r) else r }

/-- R70: the record of a vehicle is removed. -/
def removeVehicle (v : Nat) (s : State) : State :=
  { s with vehicles := s.vehicles.filter fun r => decide (r.vehicle ≠ v) }

/-- R65: a class carried by a source settles an unsettled record and no other. -/
def settleClass (cls : Option ClassId) (r : VehicleRecord) : VehicleRecord :=
  match cls with
  | some c => if r.settled then r else { r with cls := c, settled := true }
  | none => r

/-! ### Totals and service status (R73, R80, R81) -/

/-- R73: the shift view. -/
def shiftView (sigma : Nat) (r : VehicleRecord) : Nat :=
  if r.shift = sigma then CompMap.sum r.shiftMap else 0

/-- R80: litres since service, in cL. -/
def litresSince (r : VehicleRecord) : Nat := CompMap.sum r.serviceMap

/-- R80: hours since service, in tenths. -/
def hoursSince (r : VehicleRecord) : Option Nat :=
  match r.latestHours, r.hoursAtService with
  | some l, some h => some (l - h)
  | _, _ => none

/-- R81: a term of the per-mille; a term that is not present is 0. -/
def perMilleTerm (count : Option Nat) (interval : Nat) : Nat :=
  match count with
  | some c => if interval = 0 then 0 else c * 1000 / interval
  | none => 0

/-- R81: the service per-mille. -/
def perMille (c : ClassCfg) (r : VehicleRecord) : Nat :=
  min 65535 (max (perMilleTerm (some (litresSince r)) c.litresInterval)
    (perMilleTerm (hoursSince r) c.hoursInterval))

/-- R81: the service status of a per-mille. -/
def statusOf (c : ClassCfg) (p : Nat) : ServiceStatus :=
  if p < c.warn then .ok
  else if p < 1000 then .due
  else if p < 1000 + c.grace then .overdue
  else .locked

/-- R82: the status of a vehicle's record is derived afresh; a change posts SERVICE_STATUS. -/
def deriveStatus (v : Nat) (s : State) : State :=
  match findVehicle v s with
  | none => s
  | some r =>
    let p := perMille (s.classCfg r.cls) r
    let new := statusOf (s.classCfg r.cls) p
    if new = r.status then s
    else post v (.serviceStatus new r.status p) (editVehicle v (fun x => { x with status := new }) s)

/-! ### The station shift (R71) -/

/-- R71: a carried shift above σ is adopted, with SHIFT_CHANGE naming the notice's origin. -/
def adoptShift (n origin : Nat) (s : State) : State :=
  if s.sigma < n then post 0 (.shiftChange n s.sigma origin) { s with sigma := n } else s

/-! ### Heard components (R74, R75) -/

/-- R74: the shift triple (k, x, n) on a record. -/
def mergeShift (k x n : Nat) (r : VehicleRecord) : VehicleRecord :=
  if n = r.shift then { r with shiftMap := CompMap.merge r.shiftMap k x }
  else if r.shift < n then { r with shift := n, shiftMap := CompMap.merge [] k x }
  else r

/-- R75: the service triple (k, x, g) on a record that has applied the notice's generation. -/
def mergeService (k x g : Nat) (r : VehicleRecord) : VehicleRecord :=
  if g = r.generation then { r with serviceMap := CompMap.merge r.serviceMap k x } else r

/-! ### Own credits (R76, R77) -/

/-- R76: the shift credit of an own dispense. -/
def creditShift (own sigma holdShift vol : Nat) (r : VehicleRecord) : VehicleRecord :=
  if vol = 0 ∨ holdShift ≠ sigma then r
  else if r.shift = sigma then { r with shiftMap := CompMap.credit r.shiftMap own vol }
  else { r with shift := sigma, shiftMap := CompMap.credit [] own vol }

/-- R77: the service credit of an own dispense. -/
def creditService (own vol : Nat) (r : VehicleRecord) : VehicleRecord :=
  if vol = 0 then r else { r with serviceMap := CompMap.credit r.serviceMap own vol }

/-! ### Engine hours (R83 to R88) -/

/-- R85, last part: a pending value that latest hours has reached is made absent. -/
def dropPending (r : VehicleRecord) : VehicleRecord :=
  match r.pendingHours, r.latestHours with
  | some q, some l => if q ≤ l then { r with pendingHours := none } else r
  | _, _ => r

/-- R85: latest hours by maximum. -/
def raiseLatest (x : Nat) (r : VehicleRecord) : VehicleRecord :=
  match r.latestHours with
  | none => dropPending { r with latestHours := some x }
  | some l => if l < x then dropPending { r with latestHours := some x } else r

/-- R87, step 4: latest hours is not left below hours at service. -/
def raiseToService (r : VehicleRecord) : VehicleRecord :=
  match r.hoursAtService with
  | some h => raiseLatest h r
  | none => r

/-- R86, R87: a new generation: the service map is emptied and hours at service taken or made absent. -/
def newGeneration (g : Nat) (hours : Option Nat) (r : VehicleRecord) : VehicleRecord :=
  raiseToService { r with generation := g, serviceMap := [], hoursAtService := hours }

/-- R88: hours at service of an equal generation only rises. -/
def raiseService (hours : Option Nat) (r : VehicleRecord) : VehicleRecord :=
  match hours, r.hoursAtService with
  | some x, none => raiseToService { r with hoursAtService := some x }
  | some x, some h => if h < x then raiseToService { r with hoursAtService := some x } else r
  | none, _ => r

/-- R87, R88: the generation and the hours at service of a notice on a record. -/
def applyGeneration (g : Nat) (hours : Option Nat) (r : VehicleRecord) : VehicleRecord :=
  if r.generation < g then newGeneration g hours r
  else if g = r.generation then raiseService hours r
  else r

/-- Latest hours carried by a notice, if any (R85). -/
def applyLatest (hours : Option Nat) (r : VehicleRecord) : VehicleRecord :=
  match hours with
  | some x => raiseLatest x r
  | none => r

/-- What a tag reading does to a record (R83, R84). -/
inductive Reading where
  | adopted
  | ignored
  | suspected
deriving DecidableEq, Repr

/-- Section 5.5: whether a reading is within the confirmation band of a pending value. -/
def confirms (pending : Option Nat) (x : Nat) : Bool :=
  match pending with
  | some q => decide (q ≤ x + confirmBand) && decide (x ≤ q + confirmBand)
  | none => false

/-- R83, R84: the row that a tag reading falls under. -/
def classify (x : Nat) (r : VehicleRecord) : Reading :=
  match r.latestHours with
  | none => .adopted
  | some l =>
    if x ≤ l then .ignored
    else if confirms r.pendingHours x = true ∨ x ≤ l + jumpLimit then .adopted
    else .suspected

/-- R83, R84: a tag reading on the record of a vehicle. -/
def tagReading (v x : Nat) (s : State) : State :=
  match findVehicle v s with
  | none => s
  | some r =>
    match classify x r with
    | .adopted => editVehicle v (fun y => { y with latestHours := some x, pendingHours := none }) s
    | .ignored => s
    | .suspected =>
      post v (.hoursSuspect x (r.latestHours.getD 0))
        (editVehicle v (fun y => { y with pendingHours := some x }) s)

/-! ### The record of a notice's vehicle (R68, R69) -/

/-- R69: a notice dropped for a full table is counted on its port, and TABLE_FULL is posted unless one
was posted less than 60 s ago. -/
def dropForFullTable (p : PortId) (v : Nat) (s : State) : State :=
  let s1 := s.modPortCounters p fun c => { c with tableFullDrops := c.tableFullDrops.inc }
  let due :=
    match s.tableFullTick with
    | none => true
    | some t => decide (t + tableFullGap ≤ s.tick)
  if due then post v .tableFull { s1 with tableFullTick := some s.tick } else s1

/-- R68, R65: the record of a notice's vehicle is found, or created, and a class carried settles it. None
when 320 records are present and the vehicle's is not among them. -/
def recordForNotice (v : Nat) (cls : Option ClassId) (s : State) : Option State :=
  match findVehicle v s with
  | some _ => some (editVehicle v (settleClass cls) s)
  | none => if s.vehicles.length < maxVehicles then some (createVehicle v cls .notice s) else none

/-! ### Announcing (R159) -/

/-- R159: whether the walker announces a record. -/
def announceable (r : VehicleRecord) : Bool :=
  !r.shiftMap.isEmpty || !r.serviceMap.isEmpty || r.hoursAtService.isSome || r.latestHours.isSome
    || decide (0 < r.generation)

end Sys2Proof.Machine
end

