-- ==== Sys2Proof/Machine/Notice.lean ====
section
/-!
DEFINITION. The notices (Chapter 9): their fields, their payloads (R186), the reading and the validation
of a payload (R149, R150), and the building of each kind from the tables (R151 to R157).
-/

namespace Sys2Proof.Machine

/-! ### The fields of each kind -/

/-- The fields of a HOLD (R151). -/
structure HoldNotice where
  vehicle : Nat
  hose : HoseId
  number : Nat
  shift : Nat
  tank : TankId
  preset : Nat
deriving DecidableEq, Repr

/-- The fields of a SERVICE (R153). -/
structure ServiceNotice where
  vehicle : Nat
  generation : Nat
  hours : Option Nat
deriving DecidableEq, Repr

/-- The fields of an ISSUE (R154). -/
structure IssueNotice where
  vehicle : Nat
  cls : Option ClassId
  hose : HoseId
  number : Nat
  shift : Nat
  ownShift : Nat
  generation : Nat
  ownService : Nat
  tank : TankId
  period : Nat
  ownIssue : Nat
  latest : Option Nat
  volume : Nat
deriving DecidableEq, Repr

/-- An entry of a STATE or STOCK part: a station and two volumes. -/
structure NoticeEntry where
  station : Nat
  first : Nat
  second : Nat
deriving DecidableEq, Repr

/-- The fields of a STATE part (R155). -/
structure StateNotice where
  vehicle : Nat
  cls : Option ClassId
  shift : Nat
  generation : Nat
  hours : Option Nat
  latest : Option Nat
  part : Nat
  entries : List NoticeEntry
deriving DecidableEq, Repr

/-- A gauge as a STOCK carries it (R105). -/
structure NoticeGauge where
  count : Nat
  origin : Nat
  volume : Nat
deriving DecidableEq, Repr

/-- The fields of a STOCK part (R157). -/
structure StockNotice where
  tank : TankId
  period : Nat
  opening : Option Nat
  gauge : Option NoticeGauge
  part : Nat
  entries : List NoticeEntry
deriving DecidableEq, Repr

/-! ### Payloads (R186) -/

/-- A field that takes bytes only when it is present. -/
def optBytes {α : Type} (x : Option α) (bytes : α → List Byte) : List Byte :=
  match x with
  | some v => bytes v
  | none => []

/-- The payload of a HOLD. -/
def HoldNotice.payload (n : HoldNotice) : List Byte :=
  byte2 n.vehicle ++ byte1 n.hose.val ++ byte1 n.number ++ byte2 n.shift ++ byte1 n.tank.val
    ++ byte4 n.preset

/-- The payload of a SERVICE. -/
def ServiceNotice.payload (n : ServiceNotice) : List Byte :=
  byte2 n.vehicle ++ [markIf markHours n.hours] ++ byte2 n.generation ++ optBytes n.hours byte4

/-- The payload of an ISSUE. -/
def IssueNotice.payload (n : IssueNotice) : List Byte :=
  byte2 n.vehicle ++ [markIf markClass n.cls ||| markIf markLatest n.latest]
    ++ optBytes n.cls (fun c => byte1 c.val) ++ byte1 n.hose.val ++ byte1 n.number
    ++ byte2 n.shift ++ byte4 n.ownShift ++ byte2 n.generation ++ byte4 n.ownService
    ++ byte1 n.tank.val ++ byte2 n.period ++ byte4 n.ownIssue ++ optBytes n.latest byte4
    ++ byte4 n.volume

/-- The bytes of an entry. -/
def NoticeEntry.bytes (e : NoticeEntry) : List Byte :=
  byte1 e.station ++ byte4 e.first ++ byte4 e.second

/-- The payload of a STATE part. -/
def StateNotice.payload (n : StateNotice) : List Byte :=
  byte2 n.vehicle
    ++ [markIf markClass n.cls ||| markIf markHours n.hours ||| markIf markLatest n.latest]
    ++ optBytes n.cls (fun c => byte1 c.val) ++ byte2 n.shift ++ byte2 n.generation
    ++ optBytes n.hours byte4 ++ optBytes n.latest byte4 ++ byte1 n.part
    ++ byte1 n.entries.length ++ n.entries.flatMap NoticeEntry.bytes

/-- The payload of a STOCK part. -/
def StockNotice.payload (n : StockNotice) : List Byte :=
  byte1 n.tank.val ++ byte2 n.period ++ [markIf markOpening n.opening ||| markIf markGauge n.gauge]
    ++ optBytes n.opening byte4
    ++ optBytes n.gauge (fun g => byte2 g.count ++ byte1 g.origin ++ byte4 g.volume)
    ++ byte1 n.part ++ byte1 n.entries.length ++ n.entries.flatMap NoticeEntry.bytes

/-! ### Reading and validating (R149, R150) -/

/-- R186: the length of an entry: its station and two values of four bytes. -/
def entryLength : Nat := 9

/-- An optional four-byte field: it takes bytes only when it is marked. -/
def readOpt4 (present : Bool) (bs : List Byte) : Option Nat × List Byte :=
  if present then
    let (n, r) := read4 bs
    (some n, r)
  else (none, bs)

/-- R149: one entry of a part. An entry that the payload's end cuts off reads as all zero. -/
def readEntry (bs : List Byte) : NoticeEntry :=
  if bs.length < entryLength then ⟨0, 0, 0⟩
  else
    let (station, r1) := read1 bs
    let (x, r2) := read4 r1
    let (y, _) := read4 r2
    ⟨station, x, y⟩

/-- R149: the entries of a part. -/
def readEntries (count : Nat) (bs : List Byte) : List NoticeEntry :=
  match count with
  | 0 => []
  | k + 1 => readEntry bs :: readEntries k (bs.drop entryLength)

/-- R150: an hours value, if present, that is in range. -/
def hoursInRange (x : Option Nat) : Bool :=
  match x with
  | some h => decide (h ≤ maxHours)
  | none => true

/-- R150: the entry counts, the part index and the entries' stations of a part. -/
def partValid (part count : Nat) (entries : List NoticeEntry) (optional : Bool) : Bool :=
  decide (part ≤ 2) && decide (count ≤ if part = 0 then 5 else 6)
    && (decide (part = 0) || !optional)
    && entries.all fun e => decide (1 ≤ e.station) && decide (e.station ≤ 16)

/-- R149, R150: a HOLD, if it is valid. -/
def readHold (bs : List Byte) : Option HoldNotice :=
  let (v, r1) := read2 bs
  let (h, r2) := read1 r1
  let (n, r3) := read1 r2
  let (sh, r4) := read2 r3
  let (t, r5) := read1 r4
  let (p, _) := read4 r5
  match quadIndex h, quadIndex t with
  | some hose, some tank => if namesVehicle v then some ⟨v, hose, n, sh, tank, p⟩ else none
  | _, _ => none

/-- R149: the shift of a ROLLCALL or a SHIFT. -/
def readShift (bs : List Byte) : Nat := (read2 bs).1

/-- R149, R150: a SERVICE, if it is valid. -/
def readService (bs : List Byte) : Option ServiceNotice :=
  let (v, r1) := read2 bs
  let (m, r2) := readByte r1
  let (g, r3) := read2 r2
  let (x, _) := readOpt4 (marked m markHours) r3
  if namesVehicle v && marksWithin m markHours && hoursInRange x then some ⟨v, g, x⟩ else none

/-- A class that is present and in range, or absent; the second part says whether it is in range. -/
def readClass (present : Bool) (bs : List Byte) : Option ClassId × Bool × List Byte :=
  if present then
    let (c, r) := read1 bs
    (octIndex c, (octIndex c).isSome, r)
  else (none, true, bs)

/-- R149, R150: an ISSUE, if it is valid. -/
def readIssue (bs : List Byte) : Option IssueNotice :=
  let (v, r1) := read2 bs
  let (m, r2) := readByte r1
  let (cls, clsOk, r3) := readClass (marked m markClass) r2
  let (h, r4) := read1 r3
  let (n, r5) := read1 r4
  let (sh, r6) := read2 r5
  let (own, r7) := read4 r6
  let (g, r8) := read2 r7
  let (srv, r9) := read4 r8
  let (t, r10) := read1 r9
  let (per, r11) := read2 r10
  let (iss, r12) := read4 r11
  let (lat, r13) := readOpt4 (marked m markLatest) r12
  let (vol, _) := read4 r13
  match quadIndex h, quadIndex t with
  | some hose, some tank =>
    if namesVehicle v && marksWithin m (markClass ||| markLatest) && clsOk && hoursInRange lat
        && decide (vol ≤ iss) && decide (vol ≤ srv) then
      some ⟨v, cls, hose, n, sh, own, g, srv, tank, per, iss, lat, vol⟩
    else none
  | _, _ => none

/-- R149, R150: a STATE part, if it is valid. -/
def readState (bs : List Byte) : Option StateNotice :=
  let (v, r1) := read2 bs
  let (m, r2) := readByte r1
  let (cls, clsOk, r3) := readClass (marked m markClass) r2
  let (sh, r4) := read2 r3
  let (g, r5) := read2 r4
  let (hrs, r6) := readOpt4 (marked m markHours) r5
  let (lat, r7) := readOpt4 (marked m markLatest) r6
  let (part, r8) := read1 r7
  let (count, r9) := read1 r8
  let es := readEntries count r9
  if namesVehicle v && marksWithin m (markClass ||| markHours ||| markLatest) && clsOk
      && hoursInRange hrs && hoursInRange lat
      && partValid part count es (hrs.isSome || lat.isSome) then
    some ⟨v, cls, sh, g, hrs, lat, part, es⟩
  else none

/-- A gauge of a STOCK, if it is marked. -/
def readGauge (present : Bool) (bs : List Byte) : Option NoticeGauge × List Byte :=
  if present then
    let (c, r1) := read2 bs
    let (o, r2) := read1 r1
    let (v, r3) := read4 r2
    (some ⟨c, o, v⟩, r3)
  else (none, bs)

/-- R150: a gauge, if present, with a count above 0 and an origin 1 to 16. -/
def gaugeValid (x : Option NoticeGauge) : Bool :=
  match x with
  | some g => decide (0 < g.count) && decide (1 ≤ g.origin) && decide (g.origin ≤ 16)
  | none => true

/-- R149, R150: a STOCK part, if it is valid, with its opening and gauge as they are carried. -/
def readStock (bs : List Byte) : Option StockNotice :=
  let (t, r1) := read1 bs
  let (per, r2) := read2 r1
  let (m, r3) := readByte r2
  let (op, r4) := readOpt4 (marked m markOpening) r3
  let (ga, r5) := readGauge (marked m markGauge) r4
  let (part, r6) := read1 r5
  let (count, r7) := read1 r6
  let es := readEntries count r7
  match quadIndex t with
  | some tank =>
    if marksWithin m (markOpening ||| markGauge) && gaugeValid ga
        && partValid part count es (op.isSome || ga.isSome) then
      some ⟨tank, per, op, ga, part, es⟩
    else none
  | none => none

/-! ### Building notices -/

/-- R125, section 9.1: a frame of the station's own, with the priority of its kind. -/
def ownFrame (s : State) (kind : BitVec 4) (payload : List Byte) : Frame :=
  ⟨kindPriority kind, s.ownNumber, false, kind, payload⟩

/-- R151: a HOLD from an own hold entry with the preset it is to carry. -/
def holdFrame (s : State) (e : HoldEntry) (preset : Nat) : Frame :=
  ownFrame s kindHold
    (HoldNotice.payload ⟨e.vehicle, e.hose, e.number, e.shift, e.tank, preset⟩)

/-- R152: a ROLLCALL carries σ. -/
def rollcallFrame (s : State) : Frame := ownFrame s kindRollcall (byte2 s.sigma)

/-- R152: a SHIFT carries the new σ. -/
def shiftFrame (s : State) : Frame := ownFrame s kindShift (byte2 s.sigma)

/-- R153: a SERVICE. -/
def serviceFrame (s : State) (n : ServiceNotice) : Frame := ownFrame s kindService n.payload

/-- R154: an ISSUE. -/
def issueFrame (s : State) (n : IssueNotice) : Frame := ownFrame s kindIssue n.payload

/-- R155, R157: entries split into parts: five, six and the rest. -/
def splitEntries (es : List NoticeEntry) : List (List NoticeEntry) :=
  if es.length ≤ 5 then [es]
  else if es.length ≤ 11 then [es.take 5, es.drop 5]
  else [es.take 5, (es.drop 5).take 6, es.drop 11]

/-- One entry for each station with a component in either map, in ascending station number. -/
def entriesOf (a b : CompMap) : List NoticeEntry :=
  ((List.range 17).filter fun k => decide (CompMap.get a k ≠ 0 ∨ CompMap.get b k ≠ 0)).map
    fun k => ⟨k, CompMap.get a k, CompMap.get b k⟩

/-- R155: the parts of the STATE of a record. -/
def stateParts (r : VehicleRecord) : List StateNotice :=
  (splitEntries (entriesOf r.shiftMap r.serviceMap)).mapIdx fun i es =>
    { vehicle := r.vehicle
      cls := if r.settled then some r.cls else none
      shift := r.shift
      generation := r.generation
      hours := if i = 0 then r.hoursAtService else none
      latest := if i = 0 then r.latestHours else none
      part := i
      entries := es }

/-- R155: the frames of the STATE of a record. -/
def stateFrames (s : State) (r : VehicleRecord) : List Frame :=
  (stateParts r).map fun n => ownFrame s kindState n.payload

/-- R105, R157: the parts of the STOCK of a tank. -/
def stockParts (t : TankId) (x : Tank) : List StockNotice :=
  (splitEntries (entriesOf x.issueMap x.deliveryMap)).mapIdx fun i es =>
    { tank := t
      period := x.period
      opening := if i = 0 ∧ x.openingPending = false then some x.opening else none
      gauge := if i = 0 then x.gauge.map (fun g => ⟨g.count, g.origin, g.volume⟩) else none
      part := i
      entries := es }

/-- R157: the frames of the STOCK of a tank. -/
def stockFrames (s : State) (t : TankId) : List Frame :=
  (stockParts t (s.tank t)).map fun n => ownFrame s kindStock n.payload

end Sys2Proof.Machine
end

