-- ==== Sys2Proof/Machine/Yard.lean ====
section
/-!
DEFINITION. The yard ports (Chapter 8): the transmit queues, the frame in progress, the port states, the
relay copies and the ROLLCALL that ends isolation. What a port's FAULT does to the hoses stands with them.
-/

namespace Sys2Proof.Machine

/-! ### Transmit queues (R129) -/

/-- Whether an entry waits on the port. -/
def hasEntry (x : Port) : Bool := !(x.urgent.isEmpty && x.routine.isEmpty)

/-- R129: the entry a port takes for a transmission: the head of the urgent queue, or the head of the
routine queue when the urgent queue is empty. -/
def chooseEntry (x : Port) : Option Sending :=
  match x.urgent, x.routine with
  | e :: _, _ => some ⟨true, e⟩
  | [], e :: _ => some ⟨false, e⟩
  | [], [] => none

/-- R133, R140: whether a frame can begin: the port transmits, an entry waits, no frame is in progress. -/
def canBegin (x : Port) : Bool := x.state.live && hasEntry x && x.sending.isNone

/-- A frame begins. -/
def beginFrame (x : Port) : Port := { x with sending := chooseEntry x }

/-- R129: the entry sent leaves its queue, and the frames-sent counter rises. -/
def finishFrame (p : PortId) (d : Sending) (x : Port) : Port :=
  Port.sync p
    { x with
      sending := none
      urgent := if d.urgent then x.urgent.tail else x.urgent
      routine := if d.urgent then x.routine else x.routine.tail
      counters := { x.counters with framesSent := x.counters.framesSent.inc } }

/-- R129: a freed urgent entry is offered to a hose that waits for space on the port; it reserves the entry. -/
def offerOne (p : PortId) (h : HoseId) (s : State) : State :=
  let x := s.hose h
  if x.phase = .queueWait ∧ x.waitPorts.mem p = true ∧ x.reserved.mem p = false
      ∧ 0 < freeUrgent s p then
    s.modHose h fun z => { z with reserved := z.reserved.put p true }
  else s

/-- R129: freed urgent entries are offered to the waiting hoses in ascending hose number. -/
def offerUrgent (p : PortId) (s : State) : State := forHoses (offerOne p) s

/-- R129: freed urgent entries of both ports are offered. -/
def offerUrgentAll (s : State) : State := forPorts offerUrgent s

/-! ### The fast pass (R161) and the ROLLCALL (R128) -/

/-- R159: the fast interval. -/
def fastInterval (s : State) : Nat := s.cfg.station.refreshInterval / 4

/-- R161: a fast pass starts; the step count and the next tank are kept. -/
def startFastPass (s : State) : State :=
  s.modWalker fun w =>
    { w with position := none, fast := some ⟨0, false⟩, stepTimer := some (fastInterval s) }

/-- R128, R180, R181: a ROLLCALL goes to the routine queue of each usable port with a free entry. -/
def queueRollcall (s : State) : State :=
  let e : QueueEntry := ⟨rollcallFrame s, .ordinary, none⟩
  forPorts (fun p x => if usable s p && decide (0 < freeRoutine x p) then pushRoutine p e x else x) s

/-- R128, R161: a port change that ends isolation queues a ROLLCALL and starts a fast pass. -/
def afterPortChange (before s : State) : State :=
  if isolated before && !isolated s then startFastPass (queueRollcall s) else s

/-! ### Port states (R127) -/

/-- R127: a change of port state posts LINE_STATE. -/
def movePort (p : PortId) (new : PortState) (cause : Option FaultCause) (s : State) : State :=
  let left := (s.port p).state
  post (portNumber p) (.lineState new left cause)
    (s.modPort p fun x => Port.sync p { x with state := new, cause := cause })

/-- The silence limit in ms. -/
def silenceMs (s : State) : Nat := s.cfg.station.silenceLimit * 1000

/-- R137, R141, R127: a port becomes ACTIVE with its silence timer started. -/
def activate (p : PortId) (s : State) : State :=
  movePort p .active none
    (s.modPort p fun x => { x with silenceTimer := some (silenceMs s), recoveryTimer := none })

/-- R143, steps 1, 2 and 4; R147, steps 1 and 2: the frame in progress is cut and both queues flushed. -/
def flushPort (p : PortId) (x : Port) : Port :=
  Port.sync p { x with sending := none, urgent := [], routine := [] }

/-- R143, without its third step: a port enters FAULT. -/
def portToFault (p : PortId) (cause : FaultCause) (s : State) : State :=
  movePort p .fault (some cause)
    (s.modPort p fun x =>
      { flushPort p x with
        silenceTimer := none
        recoveryTimer := if cause = .transmit then some recoveryMs else none })

/-! ### Relay copies (R146) -/

/-- R146: a copy keeps all of the frame but its relayed bit. -/
def relayCopy (f : Frame) : Frame := { f with relayed := true }

/-- R146: where a copy goes on the other port, if it has room there. -/
def placeCopy (q : PortId) (f : Frame) (s : State) : State :=
  let e : QueueEntry := ⟨relayCopy f, .relay, none⟩
  let count (room : Bool) (x : State) : State :=
    x.modPortCounters q fun c =>
      if room then { c with relayed := c.relayed.inc }
      else { c with relayDropped := c.relayDropped.inc }
  if f.kind = kindHold then
    let room := decide (0 < freeUrgent s q)
    count room (if room then pushUrgent q e s else s)
  else
    let room := decide (admissionMargin < freeRoutine s q)
    count room (if room then pushRoutine q e s else s)

/-- R146, R131: the relay copy of a frame taken from port `p`. -/
def offerRelay (p : PortId) (f : Frame) (s : State) : State :=
  let q := otherPort p
  if relayConfigured s && !f.relayed then
    match (s.port q).state with
    | .active | .silent => placeCopy q f s
    | .fault => s.modPortCounters q fun c => { c with faultDiscards := c.faultDiscards.inc }
    | .off => s
  else s

/-! ### The receive FIFO (R144) -/

/-- R144: a valid frame enters the FIFO, or is dropped when 16 are held. -/
def enterFifo (f : Frame) (x : Port) : Port :=
  if x.fifo.length < fifoSize then { x with fifo := x.fifo ++ [f] }
  else
    { x with
      messageLost := true
      counters := { x.counters with fifoLost := x.counters.fifoLost.inc } }

/-- R138, R142, R150: the check-error counter of a port. -/
def countCheckError (p : PortId) (s : State) : State :=
  s.modPortCounters p fun c => { c with checkErrors := c.checkErrors.inc }

end Sys2Proof.Machine
end

