-- ==== Sys2Proof/Machine/HoseUnit.lean ====
section
/-!
DEFINITION. The hose controllers (Chapter 1) with the authorisation unit (Chapter 7): the transitions,
end processing, the ISSUE and HOLD queuing, the evaluation at CHECKING, the settling of the tank stages
with the CUTOFF signal, and what a port's FAULT does to the hoses.

Operations here leave the tank stages as they are, save `settleTanks`, which an event calls at its end.
-/

namespace Sys2Proof.Machine

/-! ### Transitions (R3, R4, R48) -/

/-- R3: the state and the outputs of a hose change together. -/
def setHoseState (new : HoseState) (x : Hose) : Hose :=
  { x with
    state := new, pump := new.pumpOn, mainValve := new.mainOpen, slowValve := new.slowOpen }

/-- Whether the open dispense is manual. -/
def isManual (x : Hose) : Bool :=
  match x.dispense with
  | some d => d.flags.manual
  | none => false

/-- R58: a lamp command, if there is one, is requested. -/
def requestLampOpt (h : HoseId) (l : Option Lamp) (s : State) : State :=
  match l with
  | some x => requestLamp h x s
  | none => s

/-- R3, R4, R48: a hose enters a state: outputs, HOSE_STATE, the lamp command given, the tag link's mode,
and the end of TAG_LOST when no hose is in PAUSED any longer (R27). -/
def enterHose (h : HoseId) (new : HoseState) (lamp : Option Lamp) (s : State) : State :=
  let x := s.hose h
  alertAfterMove
    ((requestLampOpt h lamp
      (post h.val (.hoseState new x.state)
        (s.modHose h (setHoseState new)))).modTag h (setMode (modeOf new (isManual x))))

/-- A change of the timers of a hose. -/
def modTimers (h : HoseId) (f : HoseTimers → HoseTimers) (s : State) : State :=
  s.modHose h fun x => { x with timers := f x.timers }

/-- A change of the open dispense of a hose. -/
def modDispense (h : HoseId) (f : Dispense → Dispense) (s : State) : State :=
  s.modHose h fun x => { x with dispense := x.dispense.map f }

/-- R5: a hose enters LIFTED with the lift timer at 120 s. -/
def enterLifted (h : HoseId) (s : State) : State :=
  enterHose h .lifted HoseState.lifted.entryLamp
    (modTimers h (fun t => { t with lift := some liftTimeoutMs }) s)

/-- A hose enters IDLE. -/
def enterIdle (h : HoseId) (s : State) : State :=
  enterHose h .idle HoseState.idle.entryLamp (modTimers h (fun t => { t with lift := none }) s)

/-- The ISSUE as built is kept no longer. -/
def forgetIssue (h : HoseId) (s : State) : State := s.modHose h fun x => { x with issue := none }

/-- R19, R22: a hose in ENDED or REFUSED whose nozzle is hung up and whose ISSUE is queued leaves it. -/
def tryLeave (h : HoseId) (s : State) : State :=
  if (s.hose h).lifted = false ∧ (s.hose h).pendingIssue.isEmpty = true then
    match (s.hose h).state with
    | .ended =>
      if (s.hose h).outOfService then
        enterHose h .disabled HoseState.disabled.entryLamp (forgetIssue h s)
      else enterHose h .idle HoseState.idle.entryLamp (forgetIssue h s)
    | .refused => enterHose h .idle HoseState.idle.entryLamp (forgetIssue h s)
    | .idle | .lifted | .checking | .holding | .running | .slowing | .paused | .closing
    | .disabled => s
  else s

/-! ### Refusals (R22) -/

/-- R175: a refusal counted under a class. -/
def countRefusal (c : ClassId) (r : RefusalReason) (s : State) : State :=
  s.modClassCounters c fun k =>
    { k with refusals := k.refusals.set r.index.val (k.refusals.get r.index).inc r.index.isLt }

/-- R22: a hose enters REFUSED. -/
def enterRefused (h : HoseId) (r : RefusalReason) (c : ClassId) (s : State) : State :=
  countRefusal c r
    (post h.val (.refusal r)
      (requestAlert .refuse
        (enterHose h .refused HoseState.refused.entryLamp
          (modTimers h (fun t => { t with lift := none }) s))))

/-! ### Closing (R15, R16) -/

/-- R16: a hose goes to CLOSING with an end reason; a meter fault sets the out-of-service mark. -/
def toClosing (h : HoseId) (r : EndReason) (fault : Bool) (s : State) : State :=
  let period := (s.hoseCfg h).afterFlow * 100
  let s1 := s.modHose h fun x =>
    { x with
      dispense := x.dispense.map fun d => { d with endReason := some r }
      outOfService := x.outOfService || fault
      timers := { x.timers with
        noFlow := none, duration := none, tagReturn := none, afterFlow := some period } }
  enterHose h .closing HoseState.closing.entryLamp s1

/-- R12: the slow-down and close tests in the present state. -/
def closeTests (h : HoseId) (s : State) : State :=
  let x := s.hose h
  let c := s.hoseCfg h
  match x.dispense with
  | none => s
  | some d =>
    let vol : Int := (s.meter h).s
    let closed := decide ((d.granted : Int) - (c.closeAhead : Int) ≤ vol)
    let slowed := decide ((d.granted : Int) - (c.slowDown : Int) ≤ vol)
    match x.state with
    | .running =>
      if closed then toClosing h .preset false s
      else if slowed then enterHose h .slowing HoseState.slowing.entryLamp s
      else s
    | .slowing => if closed then toClosing h .preset false s else s
    | .idle | .lifted | .checking | .holding | .paused | .closing | .ended | .refused
    | .disabled => s

/-- R13: the no-flow timer restarted at the no-flow limit. -/
def restartNoFlow (h : HoseId) (s : State) : State :=
  let limit := (s.hoseCfg h).noFlowLimit * 1000
  modTimers h (fun t => { t with noFlow := some limit }) s

/-- R14: a hose in RUNNING or SLOWING loses its tag. -/
def enterPaused (h : HoseId) (s : State) : State :=
  let limit := s.cfg.station.tagReturnLimit * 1000
  requestAlert .tagLost
    (enterHose h .paused HoseState.paused.entryLamp
      (modTimers h (fun t => { t with noFlow := none, tagReturn := some limit }) s))

/-- R14, R52, R56: tag lost is reported; it acts in RUNNING and SLOWING. -/
def tagLost (h : HoseId) (s : State) : State :=
  match (s.hose h).state with
  | .running | .slowing => enterPaused h s
  | .idle | .lifted | .checking | .holding | .paused | .closing | .ended | .refused
  | .disabled => s

/-- R14, R57: the same vehicle returns to a hose in PAUSED. -/
def tagReturned (h : HoseId) (s : State) : State :=
  closeTests h
    (enterHose h .running HoseState.running.entryLamp
      (restartNoFlow h (modTimers h (fun t => { t with tagReturn := none }) s)))

/-! ### The ISSUE notice (R18, R154) -/

/-- R18: the notice is placed on each usable port with a free routine entry; the other usable ports stay
in the pending ISSUE set. -/
def queueIssue (h : HoseId) (f : Frame) (s : State) : State :=
  let s0 := s.modHose h fun x => { x with issue := some f, pendingIssue := PortSet.empty }
  forPorts (fun p x =>
    if usable x p then
      if 0 < freeRoutine x p then pushRoutine p ⟨f, .ordinary, none⟩ x
      else x.modHose h fun y => { y with pendingIssue := y.pendingIssue.put p true }
    else x) s0

/-- R78, R105, R154: the ISSUE of a dispense, from the tables after its credits. -/
def buildIssue (h : HoseId) (d : Dispense) (vol : Nat) (s : State) : Frame :=
  let own := s.ownNumber
  let r := (findVehicle d.vehicle s).getD (newRecord d.vehicle none .notice s.tick)
  let t := s.tank d.tank
  issueFrame s
    { vehicle := d.vehicle
      cls := if r.settled then some r.cls else none
      hose := h
      number := d.holdNumber
      shift := r.shift
      ownShift := CompMap.get r.shiftMap own
      generation := r.generation
      ownService := CompMap.get r.serviceMap own
      tank := d.tank
      period := t.period
      ownIssue := CompMap.get t.issueMap own
      latest := r.latestHours
      volume := vol }

/-! ### End processing (R17) -/

/-- R175: the size bucket of a volume. -/
def sizeBucket (vol : Nat) : Fin 6 :=
  if vol < 5000 then 0
  else if vol < 20000 then 1
  else if vol < 50000 then 2
  else if vol < 100000 then 3
  else if vol < 200000 then 4
  else 5

/-- R175: one more dispense in the counters of its class. -/
def addDispense (vol : Nat) (k : ClassCounters) : ClassCounters :=
  { k with
    buckets := k.buckets.set (sizeBucket vol).val (k.buckets.get (sizeBucket vol)).inc
      (sizeBucket vol).isLt
    volume := k.volume.add vol }

/-- R175: a dispense counted under its class, save one that Restart ends (`live` false), since all counters
are 0 after Restart (log 39). -/
def countDispense (live : Bool) (c : ClassId) (vol : Nat) (s : State) : State :=
  s.modClassCounters c fun k => if live then addDispense vol k else k

/-- R17, step 2: overrun. -/
def overran (granted vol : Nat) : Bool := decide (granted + max 500 (granted / 100) < vol)

/-- R17, step 3: the credits of a dispense to the vehicle and the tank. -/
def creditDispense (d : Dispense) (vol : Nat) (s : State) : State :=
  let own := s.ownNumber
  let s1 := editVehicle d.vehicle
    (fun r => creditService own vol (creditShift own s.sigma d.holdShift vol r)) s
  if vol = 0 then s1
  else s1.modTank d.tank fun t => { t with issueMap := CompMap.credit t.issueMap own vol }

/-- R20: the record of a dispense. -/
def buildRecord (h : HoseId) (d : Dispense) (r : EndReason) (gross vol : Nat) (s : State) :
    DispenseRecord where
  hose := h
  vehicle := d.vehicle
  cls := d.cls
  holdNumber := d.holdNumber
  holdShift := d.holdShift
  tank := d.tank
  tankPeriod := (s.tank d.tank).period
  granted := d.granted
  gross := gross
  standard := vol
  finalTemp := (s.meter h).t10.getD fallbackTemp
  engineHours := d.engineHours
  startTick := d.startTick
  endTick := s.tick
  endReason := r
  flags := { d.flags with overrun := d.flags.overrun || overran d.granted vol }

/-- R8, R129: the wait of a hose in HOLDING ends; its reserved entries are free again. -/
def stopWait (x : Hose) : Hose :=
  { x with
    phase := .none, waitPorts := PortSet.empty, reserved := PortSet.empty
    timers := { x.timers with queueWait := none, settle := none } }

/-- R21, R45: a late-volume period starts on a hose, with what it carries from HOLDING. -/
def startLate (h : HoseId) (carried : Nat) (s : State) : State :=
  (s.modMeter h (openLate carried)).modHose h fun x =>
    { x with lateVolume := carried, leakReported := false }

/-- R17, steps 3 to 9: the credits, the own hold removed, the record, DISPENSE_END, the counts, the dispense
cleared, and the late-volume period with what it carries. `live` is false at Restart. -/
def account (h : HoseId) (d : Dispense) (r : EndReason) (gross vol carried : Nat) (live : Bool)
    (s : State) : State :=
  let s3 := removeOwnHold h (creditDispense d vol s)
  let record := buildRecord h d r gross vol s3
  let s7 := countDispense live d.cls vol (post h.val (.dispenseEnd record) s3)
  startLate h carried (s7.modHose h fun x =>
    { stopWait x with last := some record, requested := none, dispense := none })

/-- R17: end processing, in the order of its steps. An end from HOLDING has zero volume and carries its
G into the late-volume period (R11). Restart, which passes `live` false, carries none (R46) and leaves the
counters at 0 (R175). -/
def endProcessing (h : HoseId) (r : EndReason) (fromHolding live : Bool) (s : State) : State :=
  match (s.hose h).dispense with
  | none => s
  | some d =>
    let m := s.meter h
    let gross := if fromHolding then 0 else m.g
    let vol := if fromHolding then 0 else m.s
    let s9 := account h d r gross vol (if fromHolding && live then m.g else 0) live s
    queueIssue h (buildIssue h d vol s9) s9

/-- R11: a dispense in HOLDING ends: ENDED, end processing, and freed reservations are offered. -/
def endFromHolding (h : HoseId) (r : EndReason) (fault : Bool) (s : State) : State :=
  let s1 := s.modHose h fun x =>
    { x with
      dispense := x.dispense.map fun d => { d with endReason := some r }
      outOfService := x.outOfService || fault }
  let s2 := enterHose h .ended HoseState.ended.entryLamp s1
  tryLeave h (offerUrgentAll (endProcessing h r true true s2))

/-- R16, R17: a hose in CLOSING enters ENDED. -/
def endFromClosing (h : HoseId) (s : State) : State :=
  match (s.hose h).dispense with
  | none => s
  | some d =>
    let s1 := modTimers h (fun t => { t with afterFlow := none }) s
    let s2 := enterHose h .ended HoseState.ended.entryLamp s1
    let s3 := endProcessing h (d.endReason.getD .preset) false true s2
    tryLeave h (deriveStatus d.vehicle s3)

/-- R15, R25: an event that ends an open dispense with a reason, by the state of the hose; CLOSING keeps
its reason (R16). -/
def endDispense (h : HoseId) (r : EndReason) (fault : Bool) (s : State) : State :=
  match (s.hose h).state with
  | .holding => endFromHolding h r fault s
  | .running | .slowing | .paused => toClosing h r fault s
  | .closing =>
    if fault then s.modHose h fun x => { x with outOfService := true } else s
  | .idle | .lifted | .checking | .ended | .refused | .disabled => s

/-- R123: a conflict loss. A refusal from HOLDING counts under the class that the dispense took at CHECKING,
whatever class a notice has settled on the record since (log 40). -/
def conflictLoss (h : HoseId) (s : State) : State :=
  let x := s.hose h
  match x.state with
  | .holding =>
    let cls := (x.dispense.map Dispense.cls).getD 0
    tryLeave h (offerUrgentAll
      (enterRefused h .doubleHold cls (endProcessing h .doubleHold true true s)))
  | .running | .slowing | .paused => toClosing h .doubleHold false s
  | .idle | .lifted | .checking | .closing | .ended | .refused | .disabled => s

/-- R8: the queue wait expires: REFUSED with LINE_BUSY, no record and no ISSUE. The refusal counts under the
class that the dispense took at CHECKING (log 40). -/
def lineBusy (h : HoseId) (s : State) : State :=
  let cls := ((s.hose h).dispense.map Dispense.cls).getD 0
  let carried := (s.meter h).g
  let s1 := (removeOwnHold h s).modHose h fun x => { stopWait x with dispense := none }
  tryLeave h (offerUrgentAll (enterRefused h .lineBusy cls (startLate h carried s1)))

/-! ### Tank stages and the CUTOFF signal (R99, R101) -/

/-- R101: the signal to one hose. -/
def cutoffHose (t : TankId) (h : HoseId) (s : State) : State :=
  if (s.hoseCfg h).fitted = true ∧ (s.hoseCfg h).tank = t then
    match (s.hose h).state with
    | .holding | .running | .slowing | .paused => endDispense h .cutoff false s
    | .idle | .lifted | .checking | .closing | .ended | .refused | .disabled => s
  else s

/-- R99: a tank derives its stage; a change posts STAGE_CHANGE, and an entry to CUTOFF signals the
tank's hoses (R101). -/
def settleTank (t : TankId) (s : State) : State :=
  let held := (s.tank t).stage
  let e := effectiveStock s t
  let new := deriveStage (s.tankCfg t) held e
  if new = held then s
  else
    let s1 := post t.val (.stageChange new held e) (s.modTank t fun x => { x with stage := new })
    if new = .cutoff then forHoses (cutoffHose t) s1 else s1

/-- R99: at the end of an event, each tank whose inputs the event has changed derives its stage once; so does
the tank that the event's own rule names (R94 to R96, R102 to R104, R151, R158), whatever it has changed
(log 11). -/
def settleTanks (named : Option TankId) (before s : State) : State :=
  forTanks (fun t x =>
    if named ≠ some t ∧ stockInputs s t = stockInputs before t then x else settleTank t x) s

/-! ### Leaving the settle window (R9, R10) -/

/-- R10: the valve coil check. -/
def coilCheck (h : HoseId) (coil : CoilSense) (s : State) : State :=
  match coil with
  | .good =>
    let x := s.hose h
    let lamp :=
      match x.dispense with
      | some d => d.serviceLamp
      | none => false
    let s1 := modTimers h (fun t =>
      { t with
        duration := some durationMs
        serviceLamp := if lamp then some serviceLampMs else t.serviceLamp }) (s.modHose h stopWait)
    closeTests h
      (enterHose h .running (some (if lamp then .amberFlash else .green)) (restartNoFlow h s1))
  | .openCoil | .shortCoil => endFromHolding h .valveFault true s

/-- R9: the awaited set of a hose is empty: the settle window, or the coil check at once. -/
def settleDecision (h : HoseId) (coil : CoilSense) (s : State) : State :=
  if isolated s then coilCheck h coil s
  else
    let window := s.cfg.station.settleWindow
    s.modHose h fun x =>
      { x with phase := .settle, timers := { x.timers with settle := some window } }

/-- R9: a hose that awaits transmission and awaits none any more. -/
def checkAwaited (h : HoseId) (coil : CoilSense) (s : State) : State :=
  let x := s.hose h
  if x.phase = .awaiting ∧ x.waitPorts.isEmpty = true then settleDecision h coil s else s

/-! ### Queuing the first HOLD (R8, R129) -/

/-- R8: the HOLD is placed on every port of the set at once, its age starts again (R118), and the hose
awaits its transmission. -/
def placeHold (h : HoseId) (coil : CoilSense) (s : State) : State :=
  match ownHold s h with
  | none => s
  | some e =>
    let entry : QueueEntry := ⟨holdFrame s e e.preset, .ordinary, some (h, e.number)⟩
    let ports := (s.hose h).waitPorts
    let s1 := forPorts (fun p x => if ports.mem p then pushUrgent p entry x else x) s
    let s2 := restartAge h s1
    checkAwaited h coil (s2.modHose h fun x =>
      { x with
        phase := .awaiting, reserved := PortSet.empty, timers := { x.timers with queueWait := none } })

/-- R129: the ports of the set on which the hose has no reserved entry. -/
def lacking (x : Hose) : PortSet :=
  ⟨x.waitPorts.a && !x.reserved.a, x.waitPorts.b && !x.reserved.b⟩

/-- R8: a waiting hose with an entry on every port of its set places its HOLD. -/
def tryPlaceHold (h : HoseId) (coil : CoilSense) (s : State) : State :=
  let x := s.hose h
  if x.phase = .queueWait ∧ (lacking x).isEmpty = true then placeHold h coil s else s

/-- R8: the attempt at entry to HOLDING: the hose takes the usable ports as its set, reserves the free
entries it finds, and places the HOLD if it lacks none; otherwise it waits 5 s. -/
def startQueuing (h : HoseId) (coil : CoilSense) (s : State) : State :=
  let set := usablePorts s
  let found : PortSet :=
    ⟨set.a && decide (0 < freeUrgent s .a), set.b && decide (0 < freeUrgent s .b)⟩
  tryPlaceHold h coil (s.modHose h fun x =>
    { x with
      phase := .queueWait, waitPorts := set, reserved := found
      timers := { x.timers with queueWait := some queueWaitMs } })

/-! ### CHECKING (R7, R108 to R113) -/

/-- The result of the evaluation (R108). -/
inductive Verdict where
  | grant (cls : ClassId) (preset : Nat) (flags : DispenseFlags) (status : ServiceStatus)
  | refuse (reason : RefusalReason) (cls : ClassId)
deriving DecidableEq, Repr

/-- R67, R109: check 1: the record is present, or created for a tag-identified dispense; a tag's class
settles an unsettled record, whose status is derived at the end of the event (log 35). -/
def checkRecord (v : Nat) (tag : Option ClassId) (s : State) : State :=
  match findVehicle v s with
  | some _ => editVehicle v (settleClass tag) s
  | none =>
    if tag.isSome ∧ s.vehicles.length < maxVehicles then createVehicle v tag .tag s else s

/-- R110: check 2: whether the hold list names the vehicle. -/
def heldElsewhere (v : Nat) (s : State) : Bool := s.holds.any fun e => decide (e.vehicle = v)

/-- R100, R111: check 3: a refusal of the tank's stage. -/
def stageRefusal (x : Stage) (priority : Nat) : Option RefusalReason :=
  match x with
  | .normal => none
  | .reserve => if priority ≤ 1 then none else some .reserve
  | .critical => if priority = 0 then none else some .reserve
  | .cutoff => some .cutoff

/-- R112: the remaining allowance. -/
def remainingAllowance (c : ClassCfg) (isolatedNow : Bool) (fraction view : Nat) : Nat :=
  c.allowance * (if isolatedNow then fraction else 100) / 100 - view

/-- R112: the smallest of the volumes of the grant. -/
def grantOf (c : ClassCfg) (t : TankCfg) (requested allowance : Nat) (stage : Stage)
    (status : ServiceStatus) : Nat :=
  let base := min requested (min c.maxPreset allowance)
  let limped := if status = .locked then min base c.limp else base
  if stage = .critical then min limped t.criticalCap else limped

/-- R108: checks 2 to 5 on the record that check 1 has found. Check 4 reads the status that the record holds,
not one derived afresh with a class that check 1 has just settled (log 35). -/
def evaluateRecord (h : HoseId) (manual : Bool) (r : VehicleRecord) (s : State) : Verdict :=
  let c := s.classCfg r.cls
  let t := (s.hoseCfg h).tank
  let stage := (s.tank t).stage
  let iso := isolated s
  let requested := (s.hose h).requested.getD c.maxPreset
  let allowance :=
    remainingAllowance c iso s.cfg.station.isolatedFraction (shiftView s.sigma r)
  let grant := grantOf c (s.tankCfg t) requested allowance stage r.status
  if heldElsewhere r.vehicle s then .refuse .heldElsewhere r.cls
  else
    match stageRefusal stage c.priority with
    | some x => .refuse x r.cls
    | none =>
      if r.status = .locked ∧ c.limp = 0 then .refuse .serviceLocked r.cls
      else if grant < s.cfg.station.minDispense then .refuse .allowance r.cls
      else
        .grant r.cls grant
          { DispenseFlags.clear with
            manual := manual
            isolated := iso
            limp := decide (r.status = .locked)
            capped := decide (grant < requested) } r.status

/-- R108: the verdict, after check 1 has acted on the table. -/
def evaluate (h : HoseId) (v : Nat) (tag : Option ClassId) (s : State) : Verdict :=
  match findVehicle v s with
  | some r => evaluateRecord h tag.isNone r s
  | none =>
    match tag with
    | some c => .refuse .tableFull c
    | none => .refuse .unknownVehicle 0

/-- R44: late processing of the window in progress at entry to HOLDING, or its counts discarded, and the
first window of the dispense. VALVE_LEAK as R21 gives; at entry to HOLDING it stands before the HOSE_STATE of that
entry, an order that the rules leave open (log 38). -/
def lateProcess (h : HoseId) (s : State) : State :=
  let m := s.meter h
  let pw := windowCount m
  let m1 := lateWindow m
  let v := lateVolume (s.hoseCfg h) m1
  let leak := decide (leakThreshold < v) && !(s.hose h).leakReported
  let s1 := (s.modMeter h fun _ => m1).modHoseCounters h fun c =>
    { c with latePulses := c.latePulses.add pw.toNat }
  let s2 := s1.modHose h fun x => { x with lateVolume := v, leakReported := x.leakReported || leak }
  if leak then post h.val (.valveLeak v) s2 else s2

/-- R30, R44: the meter unit at entry to HOLDING. -/
def meterToDispense (h : HoseId) (s : State) : State :=
  let s1 := if (s.meter h).lateActive then lateProcess h s else s
  s1.modMeter h openDispense

/-- R1, R8: the open dispense as it is set at entry to HOLDING. -/
def newDispense (h : HoseId) (v : Nat) (cls : ClassId) (preset : Nat) (flags : DispenseFlags)
    (status : ServiceStatus) (s : State) : Dispense where
  vehicle := v
  cls := cls
  holdNumber := s.holdCounter
  holdShift := s.sigma
  tank := (s.hoseCfg h).tank
  granted := preset
  startTick := s.tick
  engineHours := none
  flags := { flags with uncompensated := (s.meter h).fallback }
  endReason := none
  serviceLamp := decide (status = .due)

/-- R117: the own entry of a dispense. -/
def holdOf (s : State) (h : HoseId) (d : Dispense) : HoldEntry :=
  ⟨s.ownNumber, h, d.vehicle, d.holdShift, d.tank, d.granted, d.holdNumber, 0⟩

/-- R7, R8: a granted hose enters HOLDING. The late processing comes first, so that its VALVE_LEAK stands in the event
queue before the HOSE_STATE of this entry: the model's choice, since R4, R44 and R172 give the two no order (log 38). -/
def enterHolding (h : HoseId) (v : Nat) (cls : ClassId) (preset : Nat) (flags : DispenseFlags)
    (status : ServiceStatus) (coil : CoilSense) (s : State) : State :=
  let s1 := meterToDispense h s
  let s2 := { s1 with holdCounter := (s1.holdCounter + 1) % 256 }
  let d := newDispense h v cls preset flags status s2
  let s3 := s2.modHose h fun x =>
    { x with
      dispense := some d, outOfService := false, lateVolume := 0, leakReported := false
      pendingIssue := PortSet.empty, issue := none
      timers := { x.timers with lift := none } }
  let s4 := enterHose h .holding HoseState.holding.entryLamp (s3.modTag h passChecking)
  let s5 := { s4 with holds := putHold (holdOf s4 h d) s4.holds }
  let s6 :=
    match status with
    | .overdue | .locked => requestAlert .locked s5
    | .ok | .due => s5
  startQueuing h coil s6

/-- R7: CHECKING: the evaluation, and HOLDING or REFUSED in the same event. `tag` is the class of a
tag-identified dispense. The status of a record that check 1 has changed is derived last (R82, log 35). -/
def checking (h : HoseId) (v : Nat) (tag : Option ClassId) (coil : CoilSense) (s : State) : State :=
  let s1 := checkRecord v tag s
  let s2 :=
    match evaluate h v tag s1 with
    | .grant cls preset flags status => enterHolding h v cls preset flags status coil s1
    | .refuse reason cls => enterRefused h reason cls s1
  deriveStatus v s2

/-! ### A port's FAULT at the hoses (R143, step 3) -/

/-- R143: the port leaves the sets of one hose. -/
def dropPort (p : PortId) (x : Hose) : Hose :=
  { x with
    waitPorts := x.waitPorts.put p false
    reserved := x.reserved.put p false
    pendingIssue := x.pendingIssue.put p false }

/-- R143: the hose rules act on the smaller sets. -/
def actOnSets (coil : CoilSense) (h : HoseId) (s : State) : State :=
  tryLeave h (checkAwaited h coil (tryPlaceHold h coil s))

/-- R143: a port enters FAULT. -/
def enterFault (p : PortId) (cause : FaultCause) (coils : Quad CoilSense) (s : State) : State :=
  let s1 := portToFault p cause s
  let s2 := { s1 with hoses := s1.hoses.map (dropPort p) }
  forHoses (fun h x => actOnSets (coils.get h) h x) s2

/-! ### A frame received (R138, R142, R144, R145) -/

/-- R127: a valid frame restarts the silence timer, and takes a SILENT port back to ACTIVE (R128). -/
def heardFrame (p : PortId) (s : State) : State :=
  match (s.port p).state with
  | .active => s.modPort p fun x => { x with silenceTimer := some (silenceMs s) }
  | .silent => afterPortChange s (activate p s)
  | .fault | .off => s

/-- R145: the cause of a port in FAULT becomes DUPLICATE. -/
def causeToDuplicate (p : PortId) (s : State) : State :=
  movePort p .fault (some .duplicate) (s.modPort p fun x => { x with recoveryTimer := none })

/-- R145: a frame of another station with this station's number. -/
def duplicateFrame (p : PortId) (f : Frame) (coils : Quad CoilSense) (s : State) : State :=
  if (s.port p).cause = some .duplicate then s
  else
    let s1 := post (portNumber p) (.duplicateStation f.kind) s
    if (s.port p).state = .fault then causeToDuplicate p s1 else enterFault p .duplicate coils s1

/-- R138, R142: a valid frame: counted, the silence timer, the duplicate test, the FIFO. -/
def receiveFrame (p : PortId) (f : Frame) (coils : Quad CoilSense) (s : State) : State :=
  let s1 := s.modPortCounters p fun c => { c with framesReceived := c.framesReceived.inc }
  let s2 := heardFrame p s1
  if f.origin = s.ownNumber ∧ f.relayed = false then duplicateFrame p f coils s2
  else s2.modPort p (enterFifo f)

end Sys2Proof.Machine
end

