-- ==== Sys2Proof/Machine/Reports.lean ====
section
/-!
DEFINITION. The result bytes of the console (R169 to R171, R176, R189 to R191), and the completion of a
command (R165).
-/

namespace Sys2Proof.Machine

/-! ### Completion (R165) -/

/-- R165: the result stands in the result buffer, the code read mark is clear, the port is in RESULT and
the interrupt line is asserted (R167). -/
def finish (c : Code) (bytes : List Byte) (s : State) : State :=
  s.modConsole fun k =>
    { k with
      phase := .result, command := none, result := c.byte :: bytes, readPos := 0, codeRead := false
      intLine := true }

/-! ### Records and events (R191) -/

/-- An optional field marked by one byte of 0 or 1. -/
def opt01 {α : Type} (width : Nat) (x : Option α) (bytes : α → List Byte) : List Byte :=
  optField 1 width x bytes

/-- R191: the 39 bytes of a dispense record. -/
def recordBytes (r : DispenseRecord) : List Byte :=
  byte1 r.hose.val ++ byte2 r.vehicle ++ byte1 r.cls.val ++ byte1 r.holdNumber
    ++ byte2 r.holdShift ++ byte1 r.tank.val ++ byte2 r.tankPeriod ++ byte4 r.granted
    ++ byte4 r.gross ++ byte4 r.standard ++ signed2 r.finalTemp ++ opt01 4 r.engineHours byte4
    ++ byte4 r.startTick ++ byte4 r.endTick ++ [r.endReason.code] ++ [r.flags.byte]

/-- R191: the detail of an event. -/
def detailBytes (d : EventDetail) : List Byte :=
  match d with
  | .dispenseEnd r => recordBytes r
  | .refusal r => [r.code]
  | .hoseState new left => [new.code, left.code]
  | .tagFault => []
  | .valveLeak v => byte4 v
  | .serviceStatus new prev p => [new.code, prev.code] ++ byte2 p
  | .hoursSuspect x l => byte4 x ++ byte4 l
  | .stageChange new prev e => [new.code, prev.code] ++ opt01 4 e signed4
  | .variance v limit flag => signed4 v ++ byte4 limit ++ flag1 flag
  | .shiftChange new prev origin => byte2 new ++ byte2 prev ++ byte1 origin
  | .lineState new left cause => [new.code, left.code, causeCode cause]
  | .duplicateStation k => byte1 k.toNat
  | .tableFull => []
  | .eventsLost n => byte2 n

/-- R191: an event entry. -/
def eventBytes (e : Event) : List Byte :=
  let d := detailBytes e.detail
  [e.detail.code] ++ byte4 e.tick ++ byte2 e.subject ++ byte1 d.length ++ d

/-! ### Read Station (R169) -/

/-- R190: the number of refresh and relay entries of a routine queue. -/
def refreshRelayCount (x : Port) : Nat :=
  (x.routine.filter fun e => decide (e.mark ≠ .ordinary)).length

/-- R125, R169: a port in Read Station. -/
def portBytes (x : Port) : List Byte :=
  [x.state.code, causeCode x.cause] ++ byte1 x.failCount ++ flag1 x.messageLost
    ++ byte1 x.urgent.length ++ byte1 x.routine.length ++ byte1 x.fifo.length
    ++ byte1 (refreshRelayCount x)

/-- R116, R189: a hold list entry. -/
def holdBytes (e : HoldEntry) : List Byte :=
  byte1 e.station ++ byte1 e.hose.val ++ byte2 e.vehicle ++ byte2 e.shift ++ byte1 e.tank.val
    ++ byte4 e.preset ++ byte1 e.number ++ byte2 e.age

/-- R169: the result of Read Station. -/
def stationBytes (s : State) : List Byte :=
  flag1 s.started ++ byte1 s.ownNumber ++ byte4 s.tick ++ byte2 s.sigma ++ flag1 (isolated s)
    ++ byte1 s.holdCounter ++ byte2 s.vehicles.length ++ byte1 s.console.events.length
    ++ byte2 s.console.eventsLost ++ byte2 (s.walker.position.getD 0) ++ flag1 s.walker.fast.isSome
    ++ portBytes s.portA ++ portBytes s.portB ++ byte1 s.holds.length ++ s.holds.flatMap holdBytes

/-! ### Read Hose (R170) -/

/-- R190: a set of ports: bit 0 for port A, bit 1 for port B. -/
def portSetByte (x : PortSet) : List Byte := byte1 (x.a.toNat + 2 * x.b.toNat)

/-- R170: an open dispense with the G, S and T10 of its meter unit: 32 bytes. -/
def dispenseBytes (d : Dispense) (m : Meter) : List Byte :=
  byte2 d.vehicle ++ byte1 d.cls.val ++ byte1 d.holdNumber ++ byte2 d.holdShift
    ++ byte1 d.tank.val ++ byte4 d.granted ++ byte4 d.startTick ++ opt01 4 d.engineHours byte4
    ++ [d.flags.byte] ++ byte4 m.g ++ byte4 m.s ++ opt01 2 m.t10 signed2

/-- R170: the result of Read Hose. -/
def hoseBytes (s : State) (h : HoseId) : List Byte :=
  let x := s.hose h
  flag1 (s.hoseCfg h).fitted ++ [x.state.code] ++ flag1 x.lifted ++ opt01 4 x.requested byte4
    ++ opt01 32 x.dispense (fun d => dispenseBytes d (s.meter h)) ++ flag1 x.outOfService
    ++ portSetByte x.pendingIssue ++ byte4 x.lateVolume ++ [(s.tag h).lastLamp.code]
    ++ opt01 39 x.last recordBytes

/-! ### Read Vehicle and Read Tank (R171) -/

/-- R171: the result of Read Vehicle. -/
def vehicleBytes (s : State) (r : VehicleRecord) : List Byte :=
  byte2 r.vehicle ++ byte1 r.cls.val ++ flag1 r.settled ++ byte2 r.shift ++ mapBytes r.shiftMap
    ++ byte2 r.generation ++ optField markHours 4 r.hoursAtService byte4 ++ mapBytes r.serviceMap
    ++ optField markLatest 4 r.latestHours byte4 ++ opt01 4 r.pendingHours byte4
    ++ [r.status.code, r.origin.code] ++ byte4 r.touched ++ byte4 (shiftView s.sigma r)
    ++ byte4 (litresSince r) ++ opt01 4 (hoursSince r) byte4
    ++ byte2 (perMille (s.classCfg r.cls) r)

/-- R190: a gauge. -/
def gaugeBytes (g : Gauge) : List Byte :=
  byte2 g.count ++ byte1 g.origin ++ byte4 g.volume ++ byte4 g.issuedAt ++ byte4 g.deliveredAt

/-- R171: the result of Read Tank. -/
def tankBytes (s : State) (t : TankId) : List Byte :=
  let x := s.tank t
  byte2 x.period ++ byte4 x.opening ++ flag1 x.openingPending ++ mapBytes x.issueMap
    ++ mapBytes x.deliveryMap ++ optField markGauge 15 x.gauge gaugeBytes
    ++ opt01 4 x.variance signed4 ++ flag1 x.varianceFlag ++ [x.stage.code] ++ signed4 (book x)
    ++ opt01 4 (gaugeEstimate x) signed4 ++ byte4 (heldAmount s t)
    ++ opt01 4 (effectiveStock s t) signed4

/-! ### Read Counters (R176) -/

/-- A group of counters, by its selector (R188). -/
inductive CounterGroup where
  | cls (c : ClassId)
  | port (p : PortId)
  | hose (h : HoseId)
  | station
deriving DecidableEq, Repr

/-- R188: the group that a selector names. -/
def counterGroup (n : Nat) : Option CounterGroup :=
  match octIndex n with
  | some c => some (.cls c)
  | none =>
    if n = 8 then some (.port .a)
    else if n = 9 then some (.port .b)
    else if n = 14 then some .station
    else (quadIndex (n - 10)).map .hose

/-- R189: a counter. -/
def counterBytes (c : Counter) : List Byte := byte4 c.value ++ flag1 c.overflow

/-- R175: the counters of a group, in order. -/
def groupCounters (s : State) (g : CounterGroup) : List Counter :=
  match g with
  | .cls c =>
    let k := s.classCounters.get c
    k.buckets.toList ++ [k.volume] ++ k.refusals.toList
  | .port p =>
    let k := (s.port p).counters
    [k.framesSent, k.framesReceived, k.checkErrors, k.fifoLost, k.relayed, k.relayDropped,
      k.tableFullDrops, k.faultDiscards]
  | .hose h =>
    let k := s.hoseCounters.get h
    [k.phaseErrors, k.latePulses, k.reverseDiscarded, k.tagErrors, k.tagFaults]
  | .station => [s.holdExpiries]

/-- R176: the counters of a group cleared, and the message-lost flag of a port with its group. -/
def clearGroup (g : CounterGroup) (s : State) : State :=
  match g with
  | .cls c => s.modClassCounters c fun _ => ClassCounters.zero
  | .port p => s.modPort p fun x => { x with counters := PortCounters.zero, messageLost := false }
  | .hose h => s.modHoseCounters h fun _ => HoseCounters.zero
  | .station => { s with holdExpiries := .zero }

end Sys2Proof.Machine
end

