-- ==== Sys2Proof/Machine/Settings.lean ====
section
/-!
DEFINITION. The configuration commands (Chapter 11): the four Set commands (R178) and Start (R179, R180),
with power-on reset (R177).

Values are given in the configured unit of each item (R178) and stored in the unit in which the part
holds them. Each setter answers none when its item or its value is out of range.
-/

namespace Sys2Proof.Machine

/-! ### The Set commands (R178, R188) -/

/-- The value if it is in the range. -/
def ranged (lo hi : Nat) (w : Word) : Option Nat :=
  if lo ≤ w.toNat ∧ w.toNat ≤ hi then some w.toNat else none

/-- The value if it is 0 or in the range (R79). -/
def zeroOrRanged (lo hi : Nat) (w : Word) : Option Nat :=
  if w.toNat = 0 then some 0 else ranged lo hi w

/-- The value as a signed number if it is in the range (R29). -/
def signedRanged (lo hi : Int) (w : Word) : Option Int :=
  if lo ≤ w.toInt ∧ w.toInt ≤ hi then some w.toInt else none

/-- Yes and no are 1 and 0. -/
def yesNo (w : Word) : Option Bool :=
  if w.toNat = 0 then some false else if w.toNat = 1 then some true else none

/-- R2, R107, R126, R159: an item of the station. -/
def setStationItem (item : Byte) (w : Word) (c : StationCfg) : Option StationCfg :=
  match item.toNat with
  | 1 => (ranged 1 16 w).map fun n => { c with number := some n }
  | 2 => (ranged 200 2000 w).map fun n => { c with settleWindow := n }
  | 3 => (ranged 10 300 w).map fun n => { c with tagReturnLimit := n }
  | 4 => (ranged 200 4000 w).map fun n => { c with toneHz := n }
  | 5 => (ranged 1 100 w).map fun n => { c with minDispense := n * 100 }
  | 6 => (ranged 0 100 w).map fun n => { c with isolatedFraction := n }
  | 7 => (yesNo w).map fun b => { c with portA := { c.portA with configured := b } }
  | 8 => (yesNo w).map fun b => { c with portA := { c.portA with relay := b } }
  | 9 => (yesNo w).map fun b => { c with portB := { c.portB with configured := b } }
  | 10 => (yesNo w).map fun b => { c with portB := { c.portB with relay := b } }
  | 11 => (ranged 5 300 w).map fun n => { c with silenceLimit := n }
  | 12 => (ranged 100 2000 w).map fun n => { c with refreshInterval := n }
  | _ => none

/-- R79, R92, R107: an item of a class. -/
def setClassItem (item : Byte) (w : Word) (c : ClassCfg) : Option ClassCfg :=
  match item.toNat with
  | 1 => (ranged 1 5000 w).map fun n => { c with maxPreset := n * 100 }
  | 2 => (ranged 0 100000 w).map fun n => { c with allowance := n * 100 }
  | 3 => (ranged 0 7 w).map fun n => { c with priority := n }
  | 4 => (zeroOrRanged 100 5000000 w).map fun n => { c with litresInterval := n * 100 }
  | 5 => (zeroOrRanged 10 50000 w).map fun n => { c with hoursInterval := n * 10 }
  | 6 => (ranged 500 999 w).map fun n => { c with warn := n }
  | 7 => (ranged 0 500 w).map fun n => { c with grace := n }
  | 8 => (ranged 0 500 w).map fun n => { c with limp := n * 100 }
  | _ => none

/-- R2, R29: an item of a hose. -/
def setHoseItem (item : Byte) (w : Word) (c : HoseCfg) : Option HoseCfg :=
  match item.toNat with
  | 1 => (yesNo w).map fun b => { c with fitted := b }
  | 2 => (quadIndex w.toNat).map fun t => { c with tank := t }
  | 3 => (ranged 0 100 w).map fun n => { c with slowDown := n * 100 }
  | 4 => (ranged 0 500 w).map fun n => { c with closeAhead := n }
  | 5 => (ranged 10 600 w).map fun n => { c with noFlowLimit := n }
  | 6 => (ranged 5 50 w).map fun n => { c with afterFlow := n }
  | 7 => (ranged 1000 99999 w).map fun n => { c with kh := n }
  | 8 => (ranged 1 2000 w).map fun n => { c with b1 := n }
  | 9 => (ranged 1 2000 w).map fun n => { c with b2 := n }
  | 10 => (ranged 1 2000 w).map fun n => { c with b3 := n }
  | 11 => (signedRanged (-200) 200 w).map fun x => { c with c0 := x }
  | 12 => (signedRanged (-200) 200 w).map fun x => { c with c1 := x }
  | 13 => (signedRanged (-200) 200 w).map fun x => { c with c2 := x }
  | 14 => (signedRanged (-200) 200 w).map fun x => { c with c3 := x }
  | _ => none

/-- R29, R92: an item of a tank. -/
def setTankItem (item : Byte) (w : Word) (c : TankCfg) : Option TankCfg :=
  match item.toNat with
  | 1 => (ranged 1000 2000000 w).map fun n => { c with capacity := n * 100 }
  | 2 => (ranged 0 2000000 w).map fun n => { c with reserve := n * 100 }
  | 3 => (ranged 0 2000000 w).map fun n => { c with critical := n * 100 }
  | 4 => (ranged 0 2000000 w).map fun n => { c with cutoff := n * 100 }
  | 5 => (ranged 0 100000 w).map fun n => { c with hysteresis := n * 100 }
  | 6 => (ranged 0 100000 w).map fun n => { c with varianceLimit := n * 100 }
  | 7 => (ranged 0 2000 w).map fun n => { c with criticalCap := n * 100 }
  | 8 => (ranged 0 2000 w).map fun n => { c with alpha := n }
  | _ => none

/-- R165: a configuration-state command completes with WRONG_STATE in RUNNING. -/
def inConfig (act : State → State) (s : State) : State :=
  if s.started then finish .wrongState [] s else act s

/-- R165: a running-state command completes with WRONG_STATE in CONFIG. -/
def inRunning (act : State → State) (s : State) : State :=
  if s.started then act s else finish .wrongState [] s

/-- R178: the store with an item changed, or BAD_PARAMETER with the store as it was. -/
def storeOr (c : Option Cfg) (s : State) : State :=
  match c with
  | some x => finish .ok [] { s with cfg := x }
  | none => finish .badParameter [] s

/-- Set Station (R178). -/
def cmdSetStation (item : Byte) (w : Word) : State → State :=
  inConfig fun s =>
    storeOr ((setStationItem item w s.cfg.station).map fun x => { s.cfg with station := x }) s

/-- Set Class (R178). -/
def cmdSetClass (index item : Byte) (w : Word) : State → State :=
  inConfig fun s =>
    storeOr ((octIndex index.toNat).bind fun c =>
      (setClassItem item w (s.classCfg c)).map fun x =>
        { s.cfg with classes := s.cfg.classes.set c x }) s

/-- Set Hose (R178). -/
def cmdSetHose (index item : Byte) (w : Word) : State → State :=
  inConfig fun s =>
    storeOr ((quadIndex index.toNat).bind fun h =>
      (setHoseItem item w (s.hoseCfg h)).map fun x =>
        { s.cfg with hoses := s.cfg.hoses.set h x }) s

/-- Set Tank (R178). -/
def cmdSetTank (index item : Byte) (w : Word) : State → State :=
  inConfig fun s =>
    storeOr ((quadIndex index.toNat).bind fun t =>
      (setTankItem item w (s.tankCfg t)).map fun x =>
        { s.cfg with tanks := s.cfg.tanks.set t x }) s

/-! ### Start (R179, R180) -/

/-- R179, test 2: the item of a hose found out of order: B1, selector 8, or B2, selector 9. -/
def hoseDisorder (c : HoseCfg) : Option Nat :=
  if c.fitted then
    if c.b1 < c.b2 then (if c.b2 < c.b3 then none else some 9) else some 8
  else none

/-- R179, test 3: the item of a tank found out of order: the reserve level, selector 2, or the critical
level, selector 3. -/
def tankDisorder (c : TankCfg) : Option Nat :=
  if c.critical < c.reserve ∧ c.reserve ≤ c.capacity then
    (if c.cutoff < c.critical then none else some 3)
  else some 2

/-- R179: the first of the four objects found out of order, with its item. -/
def firstDisorder (f : Fin 4 → Option Nat) : Option (Fin 4 × Nat) :=
  [0, 1, 2, 3].findSome? fun i => (f i).map fun n => (i, n)

/-- R180, step 3: a fitted hose comes up in IDLE or LIFTED. -/
def startHose (h : HoseId) (s : State) : State :=
  if (s.hoseCfg h).fitted then
    let s1 := s.modMeter h clearWindow
    if (s.hose h).lifted then enterLifted h s1 else enterIdle h s1
  else s

/-- R180, step 4; R147: a configured port becomes ACTIVE. -/
def startPort (p : PortId) (s : State) : State :=
  if (s.portCfg p).configured then activate p s else s

/-- R159, R161: the walker at Start and at Restart. -/
def startWalker (s : State) : State :=
  startFastPass (s.modWalker fun w => { w with stepCount := 0, nextTank := 0 })

/-- R180: Start brings up every block. -/
def bringUp (s : State) : State :=
  let s1 := { s with started := true, tick := 0 }
  let s2 := forTanks settleTank s1
  let s3 := forHoses startHose s2
  let s4 := forPorts startPort s3
  startWalker (queueRollcall s4)

/-- Start (R179). -/
def cmdStart : State → State :=
  inConfig fun s =>
    match s.cfg.station.number with
    | none => finish .wrongState [] s
    | some _ =>
      match firstDisorder (fun h => hoseDisorder (s.hoseCfg h)) with
      | some (h, n) => finish .badParameter (byte1 1 ++ byte1 h.val ++ byte1 n) s
      | none =>
        match firstDisorder (fun t => tankDisorder (s.tankCfg t)) with
        | some (t, n) => finish .badParameter (byte1 2 ++ byte1 t.val ++ byte1 n) s
        | none => finish .ok [] (bringUp s)

/-! ### The commands -/

/-- POWER_ON_RESET: R177. The decoder phases and clear-to-send are levels of inputs, which a reset does
not change (log 8), and the commands that wait are outside the part. -/
def execPowerOnReset (s : State) : Host.Outcome State Fault Refusal :=
  .next { State.reset with
    meters := s.meters.map fun m => { Meter.reset with phase := m.phase }
    portB := { Port.reset with cts := s.portB.cts }
    pending := s.pending }

/-- SET_STATION: R178. -/
def execSetStation (item : Byte) (w : Word) (s : State) : Host.Outcome State Fault Refusal :=
  .next (cmdSetStation item w s)

/-- SET_CLASS: R178. -/
def execSetClass (index item : Byte) (w : Word) (s : State) : Host.Outcome State Fault Refusal :=
  .next (cmdSetClass index item w s)

/-- SET_HOSE: R178. -/
def execSetHose (index item : Byte) (w : Word) (s : State) : Host.Outcome State Fault Refusal :=
  .next (cmdSetHose index item w s)

/-- SET_TANK: R178. -/
def execSetTank (index item : Byte) (w : Word) (s : State) : Host.Outcome State Fault Refusal :=
  .next (cmdSetTank index item w s)

/-- START: R179, R180. -/
def execStart (s : State) : Host.Outcome State Fault Refusal := .next (cmdStart s)

end Sys2Proof.Machine
end

