-- ==== Sys2Proof/Machine/Commands.lean ====
section
/-!
DEFINITION. The console commands of the running state and of either state (R165, section 10.5).

`cmd…` carries a command out and completes it; DATA_WRITE reaches the same functions byte by byte (R164).
-/

namespace Sys2Proof.Machine

/-! ### Vehicles (R66, R70) -/

/-- Enrol Vehicle on numbers that are in range (R66). -/
def enrol (v : Nat) (c : ClassId) (s : State) : State :=
  match findVehicle v s with
  | some r =>
    let held := (settleClass (some c) r).cls
    finish .ok (byte1 held.val) (deriveStatus v (editVehicle v (settleClass (some c)) s))
  | none =>
    if s.vehicles.length < maxVehicles then
      finish .ok (byte1 c.val) (deriveStatus v (createVehicle v (some c) .enrol s))
    else finish .tableFull [] s

/-- Enrol Vehicle (R66). -/
def cmdEnrolVehicle (v : Half) (cls : Byte) : State → State :=
  inRunning fun s =>
    match octIndex cls.toNat with
    | some c => if namesVehicle v.toNat then enrol v.toNat c s else finish .badParameter [] s
    | none => finish .badParameter [] s

/-- R70: whether a hose of the station has an open dispense for the vehicle. -/
def dispensingFor (v : Nat) (x : Hose) : Bool :=
  x.state.dispensing && (x.dispense.map Dispense.vehicle == some v)

/-- Retire Vehicle (R70). -/
def cmdRetireVehicle (v : Half) : State → State :=
  inRunning fun s =>
    match findVehicle v.toNat s with
    | none => finish .notFound [] s
    | some _ =>
      if s.hoses.toList.any (dispensingFor v.toNat) then finish .hoseBusy [] s
      else finish .ok [] (removeVehicle v.toNat s)

/-! ### Hoses (R23, R24, R25, R114) -/

/-- A command that names a hose 0 to 3 (section 10.5). -/
def onHose (hose : Byte) (act : HoseId → State → State) (s : State) : State :=
  match quadIndex hose.toNat with
  | some h => act h s
  | none => finish .badParameter [] s

/-- R24: the states in which Set Preset is accepted. -/
def acceptsPreset (x : HoseState) : Bool :=
  match x with
  | .idle | .lifted | .ended | .refused => true
  | .checking | .holding | .running | .slowing | .paused | .closing | .disabled => false

/-- R24, R107: the highest class maximum preset. -/
def highestPreset (s : State) : Nat :=
  s.cfg.classes.toList.foldl (fun m c => max m c.maxPreset) 0

/-- R24: the value stored for a request in litres. -/
def presetFor (litres : Nat) (s : State) : Option Nat :=
  if litres = 0 then none else some (min (litres * 100) (highestPreset s))

/-- Set Preset (R24). -/
def cmdSetPreset (hose : Byte) (litres : Half) : State → State :=
  inRunning fun s => onHose hose (fun h x =>
    if acceptsPreset (x.hose h).state then
      let stored := presetFor litres.toNat x
      finish .ok (byte2 (stored.getD 0 / 100)) (x.modHose h fun y => { y with requested := stored })
    else finish .hoseBusy [] x) s

/-- R114, R189: the result of an evaluation. -/
def verdictBytes (v : Verdict) : List Byte :=
  match v with
  | .grant _ preset flags _ => [HoseState.holding.code] ++ byte4 preset ++ [flags.byte, 0]
  | .refuse r _ => [HoseState.refused.code] ++ byte4 0 ++ [0, r.code]

/-- Manual Authorise for a hose in LIFTED (R114). -/
def manualChecking (h : HoseId) (v : Nat) (coil : CoilSense) (s : State) : State :=
  finish .ok (verdictBytes (evaluate h v none s)) (settleTanks none s (checking h v none coil s))

/-- Manual Authorise (R114). -/
def cmdManualAuthorise (hose : Byte) (v : Half) (coils : Quad CoilSense) : State → State :=
  inRunning fun s => onHose hose (fun h x =>
    if namesVehicle v.toNat then
      if (x.hose h).state = .lifted then manualChecking h v.toNat (coils.get h) x
      else finish .hoseBusy [] x
    else finish .badParameter [] x) s

/-- Stop Hose (R25). -/
def cmdStopHose (hose : Byte) : State → State :=
  inRunning fun s => onHose hose (fun h x =>
    if (x.hose h).state.dispensing then
      finish .ok [] (settleTanks none x (endDispense h .aborted false x))
    else finish .wrongState [] x) s

/-- Return Hose (R23). -/
def cmdReturnHose (hose : Byte) : State → State :=
  inRunning fun s => onHose hose (fun h x =>
    if (x.hoseCfg h).fitted = true ∧ (x.hose h).state = .disabled then
      let y := if (x.hose h).lifted then enterLifted h x else enterIdle h x
      finish .ok [(y.hose h).state.code] y
    else finish .wrongState [] x) s

/-! ### Shift and service (R72, R86) -/

/-- Open Shift (R72). -/
def cmdOpenShift : State → State :=
  inRunning fun s =>
    if s.sigma = maxNumber then finish .wrongState [] s
    else if roomOnAll s 1 then
      let s1 := adoptShift (s.sigma + 1) 0 s
      finish .ok (byte2 s1.sigma) (queueOrdinary [shiftFrame s1] s1)
    else finish .queueFull [] s

/-- Record Service on a record that takes it (R86). -/
def recordService (v : Nat) (g : Nat) (hours : Option Nat) (s : State) : State :=
  let s1 := editVehicle v (newGeneration g hours) s
  finish .ok (byte2 g)
    (queueOrdinary [serviceFrame s1 ⟨v, g, hours⟩] (deriveStatus v s1))

/-- Record Service (R86); the hours are read only with bit 1 of the presence byte set (R188). -/
def cmdRecordService (v : Half) (presence : Byte) (hours : Word) : State → State :=
  inRunning fun s =>
    let given := if marked presence markHours then some hours.toNat else none
    if namesVehicle v.toNat && hoursInRange given then
      match findVehicle v.toNat s with
      | none => finish .notFound [] s
      | some r =>
        if r.generation = maxNumber then finish .wrongState [] s
        else if roomOnAll s 1 then recordService v.toNat (r.generation + 1) given s
        else finish .queueFull [] s
    else finish .badParameter [] s

/-! ### Tanks (R94, R95, R96) -/

/-- R157: the STOCK of a tank as `s1` holds it is queued if it has room, the tank's stage is derived, and the
command completes with the bytes that `result` gives; otherwise QUEUE_FULL, with `s` as it was. -/
def withStock (t : TankId) (s s1 : State) (result : State → List Byte) : State :=
  let fs := stockFrames s1 t
  if roomOnAll s fs.length then
    finish .ok (result s1) (settleTanks (some t) s (queueOrdinary fs s1))
  else finish .queueFull [] s

/-- R94: a delivery on the own component. -/
def deliver (t : TankId) (vol : Nat) (s : State) : State :=
  s.modTank t fun x => { x with deliveryMap := CompMap.credit x.deliveryMap s.ownNumber vol }

/-- Record Delivery (R94). -/
def cmdRecordDelivery (tank : Byte) (vol : Word) : State → State :=
  inRunning fun s =>
    match quadIndex tank.toNat with
    | none => finish .badParameter [] s
    | some t =>
      if 1 ≤ vol.toNat ∧ vol.toNat ≤ maxDelivery then
        withStock t s (deliver t vol.toNat s) fun x =>
          byte4 (CompMap.get (x.tank t).deliveryMap s.ownNumber) ++ signed4 (book (x.tank t))
      else finish .badParameter [] s

/-- Reopen Tank (R95). -/
def cmdReopenTank (tank : Byte) (opening : Word) : State → State :=
  inRunning fun s =>
    match quadIndex tank.toNat with
    | none => finish .badParameter [] s
    | some t =>
      let n := (s.tank t).period
      if (s.tankCfg t).capacity < opening.toNat then finish .badParameter [] s
      else if n = maxNumber then finish .wrongState [] s
      else
        withStock t s (s.modTank t (newPeriod (n + 1) (some opening.toNat))) fun _ =>
          byte2 (n + 1)

/-- R96: the count of the next gauge. -/
def nextGaugeCount (x : Tank) : Nat :=
  match x.gauge with
  | some g => g.count + 1
  | none => 1

/-- Report Gauge (R96). The room is tested before the variance is assessed, so that a refused command
posts nothing. -/
def cmdReportGauge (tank : Byte) (vol : Word) : State → State :=
  inRunning fun s =>
    match quadIndex tank.toNat with
    | none => finish .badParameter [] s
    | some t =>
      let n := nextGaugeCount (s.tank t)
      if maxNumber < n then finish .wrongState [] s
      else
        withStock t s (adoptGauge t n s.ownNumber vol.toNat s) fun x =>
          byte4 (min vol.toNat (s.tankCfg t).capacity) ++ byte2 n
            ++ opt01 4 (x.tank t).variance signed4

/-! ### Alert (R27) -/

/-- Sound Alert (R27). -/
def cmdSoundAlert (tenths : Byte) : State → State :=
  inRunning fun s =>
    if 1 ≤ tenths.toNat ∧ tenths.toNat ≤ 100 then
      finish .ok [] (requestAlert (.sound tenths.toNat) s)
    else finish .badParameter [] s

/-! ### Reading (R169, R170, R171, R176, R174) -/

/-- Read Station (R169). -/
def cmdReadStation (s : State) : State := finish .ok (stationBytes s) s

/-- Read Hose (R170). -/
def cmdReadHose (hose : Byte) : State → State :=
  onHose hose fun h s => finish .ok (hoseBytes s h) s

/-- Read Vehicle (R171). -/
def cmdReadVehicle (v : Half) (s : State) : State :=
  if namesVehicle v.toNat then
    match findVehicle v.toNat s with
    | some r => finish .ok (vehicleBytes s r) s
    | none => finish .notFound [] s
  else finish .badParameter [] s

/-- Read Tank (R171). -/
def cmdReadTank (tank : Byte) (s : State) : State :=
  match quadIndex tank.toNat with
  | some t => finish .ok (tankBytes s t) s
  | none => finish .badParameter [] s

/-- Read Counters (R176). -/
def cmdReadCounters (group : Byte) (s : State) : State :=
  match counterGroup group.toNat with
  | some g => finish .ok ((groupCounters s g).flatMap counterBytes) (clearGroup g s)
  | none => finish .badParameter [] s

/-- R174: the queue after its oldest entry has been taken: EVENTS_LOST in the place freed if events were
lost. -/
def afterFetch (rest : List Event) (s : State) : State :=
  s.modConsole fun k =>
    if k.eventsLost = 0 then { k with events := rest }
    else { k with events := rest ++ [⟨s.tick, 0, .eventsLost k.eventsLost⟩], eventsLost := 0 }

/-- Fetch Event (R174). -/
def cmdFetchEvent (s : State) : State :=
  match s.console.events with
  | [] => finish .notFound [] s
  | e :: rest => finish .ok (eventBytes e) (afterFetch rest s)

/-! ### The commands -/

/-- ENROL_VEHICLE: R66. -/
def execEnrolVehicle (v : Half) (cls : Byte) (s : State) : Host.Outcome State Fault Refusal :=
  .next (cmdEnrolVehicle v cls s)

/-- RETIRE_VEHICLE: R70. -/
def execRetireVehicle (v : Half) (s : State) : Host.Outcome State Fault Refusal :=
  .next (cmdRetireVehicle v s)

/-- SET_PRESET: R24. -/
def execSetPreset (hose : Byte) (litres : Half) (s : State) : Host.Outcome State Fault Refusal :=
  .next (cmdSetPreset hose litres s)

/-- MANUAL_AUTHORISE: R114. -/
def execManualAuthorise (hose : Byte) (v : Half) (coils : Quad CoilSense) (s : State) :
    Host.Outcome State Fault Refusal :=
  .next (cmdManualAuthorise hose v coils s)

/-- STOP_HOSE: R25. -/
def execStopHose (hose : Byte) (s : State) : Host.Outcome State Fault Refusal :=
  .next (cmdStopHose hose s)

/-- RETURN_HOSE: R23. -/
def execReturnHose (hose : Byte) (s : State) : Host.Outcome State Fault Refusal :=
  .next (cmdReturnHose hose s)

/-- OPEN_SHIFT: R72. -/
def execOpenShift (s : State) : Host.Outcome State Fault Refusal := .next (cmdOpenShift s)

/-- RECORD_SERVICE: R86. -/
def execRecordService (v : Half) (presence : Byte) (hours : Word) (s : State) :
    Host.Outcome State Fault Refusal :=
  .next (cmdRecordService v presence hours s)

/-- RECORD_DELIVERY: R94. -/
def execRecordDelivery (tank : Byte) (vol : Word) (s : State) : Host.Outcome State Fault Refusal :=
  .next (cmdRecordDelivery tank vol s)

/-- REOPEN_TANK: R95. -/
def execReopenTank (tank : Byte) (opening : Word) (s : State) : Host.Outcome State Fault Refusal :=
  .next (cmdReopenTank tank opening s)

/-- REPORT_GAUGE: R96. -/
def execReportGauge (tank : Byte) (vol : Word) (s : State) : Host.Outcome State Fault Refusal :=
  .next (cmdReportGauge tank vol s)

/-- SOUND_ALERT: R27. -/
def execSoundAlert (tenths : Byte) (s : State) : Host.Outcome State Fault Refusal :=
  .next (cmdSoundAlert tenths s)

/-- READ_STATION: R169. -/
def execReadStation (s : State) : Host.Outcome State Fault Refusal := .next (cmdReadStation s)

/-- READ_HOSE: R170. -/
def execReadHose (hose : Byte) (s : State) : Host.Outcome State Fault Refusal :=
  .next (cmdReadHose hose s)

/-- READ_VEHICLE: R171. -/
def execReadVehicle (v : Half) (s : State) : Host.Outcome State Fault Refusal :=
  .next (cmdReadVehicle v s)

/-- READ_TANK: R171. -/
def execReadTank (tank : Byte) (s : State) : Host.Outcome State Fault Refusal :=
  .next (cmdReadTank tank s)

/-- READ_COUNTERS: R176. -/
def execReadCounters (group : Byte) (s : State) : Host.Outcome State Fault Refusal :=
  .next (cmdReadCounters group s)

/-- FETCH_EVENT: R174. -/
def execFetchEvent (s : State) : Host.Outcome State Fault Refusal := .next (cmdFetchEvent s)

end Sys2Proof.Machine
end

