-- ==== Sys2Proof/Machine/Restart.lean ====
section
/-!
DEFINITION. Restart (R181, R182), step by step in the order of R181.
-/

namespace Sys2Proof.Machine

/-! ### Step 1: hoses (R26) -/

/-- R26: the timers of a hose after Restart: the lift timer restarted in LIFTED, all others stopped. -/
def restartTimers (x : HoseState) : HoseTimers :=
  if x = .lifted then { HoseTimers.stopped with lift := some liftTimeoutMs } else HoseTimers.stopped

/-- R26: an open dispense ends at once: valves shut, pump stopped, the state that Restart leaves. The
report of the change follows in step 6. -/
def restartHose (x : Hose) : Hose :=
  let y := { x with
    timers := restartTimers x.state, phase := .none, waitPorts := PortSet.empty
    reserved := PortSet.empty, lateVolume := 0, leakReported := false }
  if x.state.dispensing then
    setHoseState .ended
      { y with dispense := y.dispense.map fun d => { d with endReason := some .restart } }
  else y

/-! ### Step 2: tag links (R61) -/

/-- R61: the tag links of the fitted hoses. -/
def restartTags (s : State) : State :=
  forHoses (fun h x =>
    if (x.hoseCfg h).fitted then x.modTag h (restartTag (x.hose h).state) else x) s

/-! ### Step 3: ports (R147) -/

/-- R147: one configured port, without its reports. -/
def restartPort (silence : Nat) (p : PortId) (x : Port) : Port :=
  let left := decide (x.state = .fault)
  Port.sync p
    { flushPort p x with
      fifo := []
      partFrame := []
      state := if left then .active else x.state
      cause := none
      silenceTimer := if left then some silence else x.silenceTimer
      recoveryTimer := none
      failCount := 0
      counters := PortCounters.zero
      messageLost := false }

/-- R147: the configured ports. -/
def restartPorts (s : State) : State :=
  forPorts (fun p x =>
    if (x.portCfg p).configured then x.modPort p (restartPort (silenceMs x) p) else x) s

/-! ### Step 4: console, counters, and the items of R182 -/

/-- R173, R175, R182: the event queue, the counters, the alert and the table-full event tick. -/
def restartConsole (s : State) : State :=
  { s with
    console := { s.console with events := [], eventsLost := 0 }
    classCounters := Oct.all ClassCounters.zero
    hoseCounters := Quad.all HoseCounters.zero
    portA := { s.portA with counters := PortCounters.zero }
    portB := { s.portB with counters := PortCounters.zero }
    holdExpiries := .zero
    alert := .none
    tableFullTick := none }

/-! ### Step 5: end processing (R26) -/

/-- R26: end processing of a dispense that step 1 has ended. `old` is the hose as Restart found it. It counts
no dispense, since all counters are 0 after Restart (R175, log 39). -/
def restartEnd (old : Quad Hose) (h : HoseId) (s : State) : State :=
  if (old.get h).state.dispensing then
    endProcessing h .restart (decide ((old.get h).state = .holding)) false s
  else s

/-- R26: whether a hose queues its ISSUE again: found in ENDED, or in REFUSED with a pending set. -/
def requeues (x : Hose) : Bool :=
  match x.state with
  | .ended => true
  | .refused => !x.pendingIssue.isEmpty
  | .idle | .lifted | .checking | .holding | .running | .slowing | .paused | .closing
  | .disabled => false

/-- R26: the ISSUE as built is queued again. -/
def restartIssue (old : Quad Hose) (h : HoseId) (s : State) : State :=
  match requeues (old.get h), (s.hose h).issue with
  | true, some f => queueIssue h f s
  | _, _ => s

/-- R26: no port is owed an ISSUE once the queues are flushed, until it is queued again. -/
def clearPending (s : State) : State :=
  { s with hoses := s.hoses.map fun x => { x with pendingIssue := PortSet.empty } }

/-- R46: the meter units of the fitted hoses, after they have handed over their volumes. -/
def restartMeters (s : State) : State :=
  forHoses (fun h x =>
    if (x.hoseCfg h).fitted then x.modMeter h restartMeter else x) s

/-! ### Step 6: reports -/

/-- R181: LINE_STATE of a port that step 3 has taken out of FAULT. -/
def reportPort (old : State) (p : PortId) (s : State) : State :=
  if (old.portCfg p).configured = true ∧ (old.port p).state = .fault then
    post (portNumber p) (.lineState .active .fault none) s
  else s

/-- R181, R82: the status of the vehicle of an ended dispense. -/
def restartStatus (old : Quad Hose) (h : HoseId) (s : State) : State :=
  let x := old.get h
  match x.state.dispensing, x.dispense with
  | true, some d => deriveStatus d.vehicle s
  | _, _ => s

/-- R181: HOSE_STATE of a hose that step 1 has taken to ENDED. -/
def reportHose (old : Quad Hose) (h : HoseId) (s : State) : State :=
  if (old.get h).state.dispensing then post h.val (.hoseState .ended (old.get h).state) s else s

/-! ### Restart (R181) -/

/-- R181, steps 1 to 4. -/
def restartClear (s : State) : State :=
  restartConsole (restartPorts (restartTags
    { s with hoses := s.hoses.map restartHose }))

/-- R181, step 5. -/
def restartEndings (old : Quad Hose) (s : State) : State :=
  restartMeters (forHoses (restartIssue old) (forHoses (restartEnd old) (clearPending s)))

/-- R181, step 6, and the hoses that then leave ENDED or REFUSED (R19, R22). -/
def restartReports (before : State) (s : State) : State :=
  let s1 := forPorts (reportPort before) s
  let s2 := forHoses (restartStatus before.hoses) s1
  let s3 := settleTanks none before s2
  let s4 := forHoses (reportHose before.hoses) s3
  forHoses tryLeave s4

/-- R181: the work of Restart. -/
def restartStation (s : State) : State :=
  startWalker (queueRollcall (restartReports s (restartEndings s.hoses (restartClear s))))

/-- Restart (R181). -/
def cmdRestart : State → State := inRunning fun s => finish .ok [] (restartStation s)

/-- RESTART: R181. -/
def execRestart (s : State) : Host.Outcome State Fault Refusal := .next (cmdRestart s)

end Sys2Proof.Machine
end

