-- ==== Sys2Proof/Machine/Accesses.lean ====
section
/-!
DEFINITION. The console port's accesses (R163 to R167): a data write, a data read and a status read, and the
command that a code and its parameter bytes spell (R188).

DATA_WRITE takes the bits that the host shifts in during one access, and a status read, which has no command
of its own in the table, is a form of it (log 5).
-/

namespace Sys2Proof.Machine

/-- R188: a command whose parameters are an object's number and four bytes. -/
def numberAndWord (f : Byte → Word → State → State) (ps : List Byte) : State → State :=
  f (readByte ps).1 (readWord (readByte ps).2).1

/-- R188: a Set command with an index. -/
def indexItemWord (f : Byte → Byte → Word → State → State) (ps : List Byte) : State → State :=
  numberAndWord (f (readByte ps).1) (readByte ps).2

/-- R188: Enrol Vehicle. -/
def readEnrol (ps : List Byte) : State → State :=
  cmdEnrolVehicle (readHalf ps).1 (readByte (readHalf ps).2).1

/-- R188: Record Service: vehicle, presence byte, hours. -/
def readRecordService (ps : List Byte) : State → State :=
  let r := (readHalf ps).2
  cmdRecordService (readHalf ps).1 (readByte r).1 (readWord (readByte r).2).1

/-- A code that names no command (R164). -/
def cmdBad (s : State) : State := finish .badCommand [] s

/-- R164, R188: EXECUTION of the command with this code and these parameter bytes. -/
def runCommand (code : Byte) (ps : List Byte) (coils : Quad CoilSense) : State → State :=
  match code.toNat with
  | 0x01 => numberAndWord cmdSetStation ps
  | 0x02 => indexItemWord cmdSetClass ps
  | 0x03 => indexItemWord cmdSetHose ps
  | 0x04 => indexItemWord cmdSetTank ps
  | 0x05 => cmdStart
  | 0x10 => cmdRestart
  | 0x11 => readEnrol ps
  | 0x12 => cmdRetireVehicle (readHalf ps).1
  | 0x13 => cmdSetPreset (readByte ps).1 (readHalf (readByte ps).2).1
  | 0x14 => cmdManualAuthorise (readByte ps).1 (readHalf (readByte ps).2).1 coils
  | 0x15 => cmdStopHose (readByte ps).1
  | 0x16 => cmdReturnHose (readByte ps).1
  | 0x17 => cmdOpenShift
  | 0x18 => readRecordService ps
  | 0x19 => numberAndWord cmdRecordDelivery ps
  | 0x1A => numberAndWord cmdReopenTank ps
  | 0x1B => numberAndWord cmdReportGauge ps
  | 0x1C => cmdSoundAlert (readByte ps).1
  | 0x20 => cmdReadStation
  | 0x21 => cmdReadHose (readByte ps).1
  | 0x22 => cmdReadVehicle (readHalf ps).1
  | 0x23 => cmdReadTank (readByte ps).1
  | 0x24 => cmdReadCounters (readByte ps).1
  | 0x25 => cmdFetchEvent
  | _ => cmdBad

/-! ### The access byte (R163, R183, R188) -/

/-- R183: the bits of a byte on the console lines, most significant first. -/
def spiBits (b : Byte) : List Bool := bitsOf 8 b.toNat

/-- R183: the byte that the first eight bits on the console lines spell. -/
def spiByte (bits : List Bool) : Byte := BitVec.ofNat 8 (bitsValue (bits.take 8))

/-- The three accesses. -/
inductive Access where
  | status
  | write
  | read
deriving DecidableEq, Repr

/-- R188: the access byte of a data write. -/
def writeAccess : Byte := 0x02

/-- R188: the access byte of a data read. -/
def readAccess : Byte := 0x03

/-- R188: what an access byte names; any byte but the two of a data access is a status read. -/
def accessOf (b : Byte) : Access :=
  if b = writeAccess then .write else if b = readAccess then .read else .status

/-- R163: the status byte of the moment, shifted out during the access byte. -/
def shiftStatus (s : State) : State :=
  s.modConsole fun k => { k with misoStatus := k.statusByte }

/-- R163, R183: the bits that the part has shifted out in the last data read. -/
def misoBits (k : Console) : List Bool := spiBits k.misoStatus ++ spiBits k.misoData

/-- R163, R188: one access with the bits that the host shifts in. One that ends before its access byte is
complete has no effect; one that ends before its data byte is complete shifts the status byte out alone, as a
status read does. -/
def access (mosi : List Bool) (write : Byte → State → State) (read : State → State) (s : State) :
    State :=
  if mosi.length < 8 then s
  else if mosi.length < 16 then shiftStatus s
  else
    match accessOf (spiByte mosi) with
    | .status => shiftStatus s
    | .write => write (spiByte (mosi.drop 8)) (shiftStatus s)
    | .read => read (shiftStatus s)

/-! ### DATA_WRITE (R164, R166) -/

/-- R164: a command that has taken these bytes: EXECUTION when none is due, collection otherwise. -/
def collect (code : Byte) (ps : List Byte) (coils : Quad CoilSense) (s : State) : State :=
  match paramBytes code with
  | none => cmdBad s
  | some n =>
    if n ≤ ps.length then runCommand code ps coils s
    else s.modConsole fun k => { k with phase := .command, command := some ⟨code, ps⟩ }

/-- R166: the result in the buffer abandoned. -/
def abandonResult (s : State) : State :=
  s.modConsole fun k =>
    { k with
      phase := .command, command := none, result := [], readPos := 0, codeRead := true
      intLine := k.evt }

/-- R164, R166: the effect of a data byte in the phase of the port. -/
def writeEffect (b : Byte) (coils : Quad CoilSense) (s : State) : State :=
  match s.console.phase with
  | .command =>
    match s.console.command with
    | none => collect b [] coils s
    | some c => collect c.code (c.params ++ [b]) coils s
  | .execution => s
  | .result => collect b [] coils (abandonResult s)

/-! ### DATA_READ (R164, R165, R166) -/

/-- R166: the console port after a byte of the result has been read. -/
def readByteOfResult (k : Console) : Console :=
  let next := k.readPos + 1
  let last := decide (k.result.length ≤ next)
  let out := { k with
    misoData := k.result.getD k.readPos 0
    readPos := next
    codeRead := true
    phase := if last then .command else .result
    command := none }
  { out with intLine := out.interrupt }

/-- R164, R165, R166: a data read in the phase of the port. -/
def readEffect (k : Console) : Console :=
  match k.phase with
  | .command | .execution => { k with misoData := 0 }
  | .result => readByteOfResult k

/-- A whole data read, but for the status byte of its access byte. -/
def takeByte (s : State) : State := s.modConsole readEffect

/-- DATA_READ: R166. -/
def execDataRead (s : State) : Host.Outcome State Fault Refusal := .next (takeByte (shiftStatus s))

/-- DATA_WRITE: R164, R166: the access that the host's bits spell; with another access byte a status read, or
the data read that they are (R188, log 5). -/
def execDataWrite (mosi : List Bool) (coils : Quad CoilSense) (s : State) :
    Host.Outcome State Fault Refusal :=
  .next (access mosi (fun b y => writeEffect b coils y) takeByte s)

/-! ### BAD_COMMAND (R164) -/

/-- BAD_COMMAND: R164: a code that names no command; a code that names one is not this event (log 4). -/
def execBadCommand (code : Byte) (s : State) : Host.Outcome State Fault Refusal :=
  if (paramBytes code).isNone then .next (cmdBad s) else .next s

end Sys2Proof.Machine
end

