-- ==== Sys2Proof/Machine/HoseEvents.lean ====
section
/-!
DEFINITION. The events of the hose controllers: the nozzle switch, the timers of a hose, the queuing of
the HOLD and of the ISSUE, and the end of an alert pattern.

An event that the present state does not allow (a timer that is not running, a wait that is not on)
leaves the state as it is (log 4).
-/

namespace Sys2Proof.Machine

/-! ### The nozzle switch (R5) -/

/-- SWITCH_INITIAL_LEVEL: R5: the position takes the first debounced level, and nothing else happens. -/
def execSwitchInitialLevel (h : HoseId) (lifted : Bool) (s : State) :
    Host.Outcome State Fault Refusal :=
  if (s.hose h).switchKnown then .next s
  else .next (s.modHose h fun x => { x with lifted := lifted, switchKnown := true })

/-- R5: the position recorded. -/
def recordSwitch (h : HoseId) (lifted : Bool) (s : State) : State :=
  s.modHose h fun x => { x with lifted := lifted, switchKnown := true }

/-- R5: a lift, by the state of the hose. -/
def liftEffect (h : HoseId) (s : State) : State :=
  match (s.hose h).state with
  | .idle => if s.started then enterLifted h s else s
  | .lifted | .checking | .holding | .running | .slowing | .paused | .closing | .ended | .refused
  | .disabled => s

/-- LIFT: R5. -/
def execLift (h : HoseId) (s : State) : Host.Outcome State Fault Refusal :=
  .next (liftEffect h (recordSwitch h true s))

/-- R5, R11, R15, R16, R19, R22: a hang-up, by the state of the hose. -/
def hangUpEffect (h : HoseId) (s : State) : State :=
  match (s.hose h).state with
  | .lifted => enterIdle h s
  | .holding | .running | .slowing | .paused => endDispense h .nozzle false s
  | .ended | .refused => tryLeave h s
  | .idle | .checking | .closing | .disabled => s

/-- HANG_UP: R5. -/
def execHangUp (h : HoseId) (s : State) : Host.Outcome State Fault Refusal :=
  let s1 := recordSwitch h false s
  .next (settleTanks none s1 (hangUpEffect h s1))

/-! ### Timers of a hose -/

/-- LIFT_TIMEOUT: R5: REFUSED with NO_TAG, counted under class 0 (R22). -/
def execLiftTimeout (h : HoseId) (s : State) : Host.Outcome State Fault Refusal :=
  let x := s.hose h
  if x.timers.lift.isSome = true ∧ x.state = .lifted then .next (enterRefused h .noTag 0 s)
  else .next s

/-- HOLD_QUEUED: R8, R129: an entry is reserved on every port waited on, and the HOLD is placed. -/
def execHoldQueued (h : HoseId) (coils : Quad CoilSense) (s : State) :
    Host.Outcome State Fault Refusal :=
  .next (settleTanks none s (tryPlaceHold h (coils.get h) s))

/-- QUEUE_WAIT_EXPIRY: R8. -/
def execQueueWaitExpiry (h : HoseId) (s : State) : Host.Outcome State Fault Refusal :=
  let x := s.hose h
  if x.timers.queueWait.isSome = true ∧ x.state = .holding then .next (settleTanks none s (lineBusy h s))
  else .next s

/-- SETTLE_EXPIRY: R10: the valve coil check. -/
def execSettleExpiry (h : HoseId) (coil : CoilSense) (s : State) :
    Host.Outcome State Fault Refusal :=
  let x := s.hose h
  if x.timers.settle.isSome = true ∧ x.state = .holding then
    .next (settleTanks none s (coilCheck h coil s))
  else .next s

/-- NO_FLOW_EXPIRY: R13: the timer runs in RUNNING and SLOWING. -/
def execNoFlowExpiry (h : HoseId) (s : State) : Host.Outcome State Fault Refusal :=
  let x := s.hose h
  if x.timers.noFlow.isSome = true ∧ (x.state = .running ∨ x.state = .slowing) then
    .next (toClosing h .noFlow false s)
  else .next s

/-- DURATION_EXPIRY: R13: the timer runs through RUNNING, SLOWING and PAUSED. -/
def execDurationExpiry (h : HoseId) (s : State) : Host.Outcome State Fault Refusal :=
  let x := s.hose h
  if x.timers.duration.isSome = true ∧ x.state.issuing = true then
    .next (toClosing h .time false s)
  else .next s

/-- SERVICE_LAMP_EXPIRY: R7: GREEN is requested in RUNNING and SLOWING, nothing in another state. -/
def execServiceLampExpiry (h : HoseId) (s : State) : Host.Outcome State Fault Refusal :=
  if (s.hose h).timers.serviceLamp.isSome then
    let s1 := modTimers h (fun t => { t with serviceLamp := none }) s
    match (s.hose h).state with
    | .running | .slowing => .next (requestLamp h .green s1)
    | .idle | .lifted | .checking | .holding | .paused | .closing | .ended | .refused
    | .disabled => .next s1
  else .next s

/-- TAG_RETURN_EXPIRY: R14. -/
def execTagReturnExpiry (h : HoseId) (s : State) : Host.Outcome State Fault Refusal :=
  let x := s.hose h
  if x.timers.tagReturn.isSome = true ∧ x.state = .paused then
    .next (toClosing h .tagLost false s)
  else .next s

/-- AFTER_FLOW_EXPIRY: R16: ENDED and end processing. -/
def execAfterFlowExpiry (h : HoseId) (s : State) : Host.Outcome State Fault Refusal :=
  let x := s.hose h
  if x.timers.afterFlow.isSome = true ∧ x.state = .closing then
    .next (settleTanks none s (endFromClosing h s))
  else .next s

/-! ### The ISSUE of a waiting hose (R18) -/

/-- R18, R129: the waiting hose of lowest number. -/
def firstOwed (s : State) (p : PortId) : Option HoseId :=
  [0, 1, 2, 3].find? fun h => (s.hose h).pendingIssue.mem p

/-- R18, R19: a freed routine entry of the port takes the ISSUE of a hose. -/
def placeIssue (p : PortId) (h : HoseId) (f : Frame) (s : State) : State :=
  tryLeave h ((pushRoutine p ⟨f, .ordinary, none⟩ s).modHose h fun x =>
    { x with pendingIssue := x.pendingIssue.put p false })

/-- ISSUE_QUEUED: R18. -/
def execIssueQueued (p : PortId) (s : State) : Host.Outcome State Fault Refusal :=
  match firstOwed s p with
  | none => .next s
  | some h =>
    match (s.hose h).issue with
    | none => .next s
    | some f =>
      if usable s p = true ∧ (s.port p).routine.length < routineSize then
        .next (placeIssue p h f s)
      else .next s

/-! ### The bay alert (R27) -/

/-- ALERT_PATTERN_END: R27. -/
def execAlertPatternEnd (s : State) : Host.Outcome State Fault Refusal :=
  match s.alert with
  | .refuse | .locked | .sound _ =>
    .next { s with alert := if anyPaused s then .tagLost else .none }
  | .none | .tagLost => .next s

end Sys2Proof.Machine
end

