-- ==== Sys2Proof/Machine/Merge.lean ====
section
/-!
DEFINITION. The notice merge unit (R148): the seven notice kinds and the frames that carry none of them,
each taken from the head of a receive FIFO as one event.
-/

namespace Sys2Proof.Machine

/-! ### Taking a frame (R148) -/

/-- R144, R148: the head of the FIFO of port `p` is taken when its kind is one that `wanted` names; the
relay copy is offered first, then `act` merges the frame. A command whose kind does not stand at the head
changes nothing (log 4). -/
def mergeHead (p : PortId) (wanted : BitVec 4 → Bool) (act : Frame → State → State) (s : State) :
    State :=
  match (s.port p).fifo with
  | [] => s
  | f :: rest =>
    if s.started && wanted f.kind then
      act f (offerRelay p f (s.modPort p fun x => { x with fifo := rest }))
    else s

/-- The head's kind is this one. -/
def isKind (k : BitVec 4) (x : BitVec 4) : Bool := decide (x = k)

/-- R148, R68, R69, R82, R99: a notice about a vehicle: dropped for a full table, or its record found or
created, the rest applied, and the status and the stages derived; `named` is the tank it names. -/
def withRecord (p : PortId) (v : Nat) (cls : Option ClassId) (named : Option TankId)
    (rest : State → State) (s : State) : State :=
  match recordForNotice v cls s with
  | none => dropForFullTable p v s
  | some s1 => settleTanks named s (deriveStatus v (rest s1))

/-! ### HOLD (R151, R119, R122) -/

/-- R119: the entry that a HOLD of another station leaves. -/
def heardHold (origin : Nat) (n : HoldNotice) (held : Option HoldEntry) : HoldEntry :=
  let fresh : HoldEntry := ⟨origin, n.hose, n.vehicle, n.shift, n.tank, n.preset, n.number, 0⟩
  match held with
  | none => fresh
  | some e =>
    if e.number = n.number then { e with age := 0, preset := min e.preset n.preset } else fresh

/-- R119: the hold list takes a HOLD of another station. -/
def takeHold (origin : Nat) (n : HoldNotice) (s : State) : State :=
  { s with holds := putHold (heardHold origin n (findHold origin n.hose s.holds)) s.holds }

/-- R122: the hose of this station with an open dispense for the vehicle. -/
def openDispenseFor (v : Nat) (s : State) : Option HoseId :=
  (s.holds.find? fun e =>
    decide (e.station = s.ownNumber ∧ e.vehicle = v) && (s.hose e.hose).state.dispensing).map
      HoldEntry.hose

/-- R122: whether the pair (a, h) is lower than the pair (b, k). -/
def pairLower (a : Nat) (h : HoseId) (b : Nat) (k : HoseId) : Bool :=
  decide (a < b) || (decide (a = b) && decide (h < k))

/-- R122: the double-hold test. -/
def doubleHoldTest (origin : Nat) (n : HoldNotice) (s : State) : State :=
  match openDispenseFor n.vehicle s with
  | none => s
  | some h => if pairLower origin n.hose s.ownNumber h then conflictLoss h s else s

/-- R151: a HOLD. -/
def mergeHold (p : PortId) (f : Frame) (s : State) : State :=
  match readHold f.payload with
  | none => countCheckError p s
  | some n =>
    withRecord p n.vehicle none (some n.tank) (fun s1 =>
      let s2 := adoptShift n.shift f.origin s1
      if f.origin = s.ownNumber then s2
      else doubleHoldTest f.origin n (takeHold f.origin n s2)) s

/-! ### ROLLCALL and SHIFT (R152) -/

/-- R152: a ROLLCALL. -/
def mergeRollcall (f : Frame) (s : State) : State :=
  let s1 := adoptShift (readShift f.payload) f.origin s
  if f.origin = s.ownNumber then s1 else startFastPass s1

/-- R152: a SHIFT. -/
def mergeShiftNotice (f : Frame) (s : State) : State :=
  adoptShift (readShift f.payload) f.origin s

/-! ### SERVICE (R153) -/

/-- R153: a SERVICE. -/
def mergeServiceNotice (p : PortId) (f : Frame) (s : State) : State :=
  match readService f.payload with
  | none => countCheckError p s
  | some n =>
    withRecord p n.vehicle none none
      (editVehicle n.vehicle (applyGeneration n.generation n.hours)) s

/-! ### ISSUE (R154, R104, R120) -/

/-- R154, steps 3 to 6: an ISSUE on the record of its vehicle. -/
def issueOnRecord (k : Nat) (n : IssueNotice) (r : VehicleRecord) : VehicleRecord :=
  applyLatest n.latest
    (mergeService k n.ownService n.generation
      (applyGeneration n.generation none (mergeShift k n.ownShift n.shift r)))

/-- R104: an ISSUE on the tank that it names. -/
def issueOnTank (k : Nat) (n : IssueNotice) (t : Tank) : Tank :=
  let base := if t.period < n.period then newPeriod n.period none t else t
  if n.period < t.period then t
  else { base with issueMap := CompMap.merge base.issueMap k n.ownIssue }

/-- R120: an ISSUE releases the peer entry with its station, hose and hold number. -/
def releaseHold (origin : Nat) (n : IssueNotice) (s : State) : State :=
  match findHold origin n.hose s.holds with
  | none => s
  | some e =>
    if origin ≠ s.ownNumber ∧ e.number = n.number then
      { s with holds := dropHold origin n.hose s.holds }
    else s

/-- R154: an ISSUE. -/
def mergeIssue (p : PortId) (f : Frame) (s : State) : State :=
  match readIssue f.payload with
  | none => countCheckError p s
  | some n =>
    withRecord p n.vehicle n.cls (some n.tank) (fun s1 =>
      let s2 := adoptShift n.shift f.origin s1
      let s3 := editVehicle n.vehicle (issueOnRecord f.origin n) s2
      releaseHold f.origin n (s3.modTank n.tank (issueOnTank f.origin n))) s

/-! ### STATE (R156) -/

/-- R156, steps 3 to 6: a STATE part on the record of its vehicle. -/
def stateOnRecord (n : StateNotice) (r : VehicleRecord) : VehicleRecord :=
  let r1 := n.entries.foldl (fun x e => mergeShift e.station e.first n.shift x) r
  let r2 := applyGeneration n.generation n.hours r1
  let r3 := n.entries.foldl (fun x e => mergeService e.station e.second n.generation x) r2
  applyLatest n.latest r3

/-- R156: a STATE part. -/
def mergeState (p : PortId) (f : Frame) (s : State) : State :=
  match readState f.payload with
  | none => countCheckError p s
  | some n =>
    withRecord p n.vehicle n.cls none (fun s1 =>
      editVehicle n.vehicle (stateOnRecord n) (adoptShift n.shift f.origin s1)) s

/-! ### STOCK (R158, R102, R103) -/

/-- R102, step 4; R103, step 2: the entries of a part. -/
def mergeEntries (es : List NoticeEntry) (t : Tank) : Tank :=
  es.foldl (fun x e => mergeStockEntry x (e.station, e.first, e.second)) t

/-- R102, R103: a carried gauge is adopted if it ranks above the held one. -/
def mergeGauge (n : StockNotice) (s : State) : State :=
  match n.gauge with
  | none => s
  | some g =>
    if outranks g.count g.origin (s.tank n.tank).gauge then
      adoptGauge n.tank g.count g.origin g.volume s
    else s

/-- R102, R103: a STOCK part on its tank; a part of a lower period is ignored. The opening is held at
the capacity (R149). -/
def takeStock (n : StockNotice) (s : State) : State :=
  let t := s.tank n.tank
  let opening := n.opening.map fun o => min o (s.tankCfg n.tank).capacity
  if n.period < t.period then s
  else if t.period < n.period then
    mergeGauge n (s.modTank n.tank fun x => mergeEntries n.entries (newPeriod n.period opening x))
  else
    mergeGauge n (s.modTank n.tank fun x => mergeEntries n.entries (mergeOpening opening x))

/-- R158, R99: a STOCK part; the stage of its tank is derived at its end, a part of a lower period included
(log 11). -/
def mergeStock (p : PortId) (f : Frame) (s : State) : State :=
  match readStock f.payload with
  | none => countCheckError p s
  | some n => settleTanks (some n.tank) s (takeStock n s)

/-! ### The commands -/

/-- HOLD_MERGE. -/
def execHoldMerge (p : PortId) (s : State) : Host.Outcome State Fault Refusal :=
  .next (mergeHead p (isKind kindHold) (mergeHold p) s)

/-- ROLLCALL_MERGE. -/
def execRollcallMerge (p : PortId) (s : State) : Host.Outcome State Fault Refusal :=
  .next (mergeHead p (isKind kindRollcall) mergeRollcall s)

/-- SHIFT_MERGE. -/
def execShiftMerge (p : PortId) (s : State) : Host.Outcome State Fault Refusal :=
  .next (mergeHead p (isKind kindShift) mergeShiftNotice s)

/-- SERVICE_MERGE. -/
def execServiceMerge (p : PortId) (s : State) : Host.Outcome State Fault Refusal :=
  .next (mergeHead p (isKind kindService) (mergeServiceNotice p) s)

/-- ISSUE_MERGE. -/
def execIssueMerge (p : PortId) (s : State) : Host.Outcome State Fault Refusal :=
  .next (mergeHead p (isKind kindIssue) (mergeIssue p) s)

/-- STATE_MERGE. -/
def execStateMerge (p : PortId) (s : State) : Host.Outcome State Fault Refusal :=
  .next (mergeHead p (isKind kindState) (mergeState p) s)

/-- STOCK_MERGE. -/
def execStockMerge (p : PortId) (s : State) : Host.Outcome State Fault Refusal :=
  .next (mergeHead p (isKind kindStock) (mergeStock p) s)

/-- NON_NOTICE_FRAME_MERGE: R150, first row. -/
def execNonNoticeFrameMerge (p : PortId) (s : State) : Host.Outcome State Fault Refusal :=
  .next (mergeHead p (fun k => !isNoticeKind k) (fun _ x => countCheckError p x) s)

end Sys2Proof.Machine
end

