-- ==== Sys2Proof/Machine/MeterEvents.lean ====
section
/-!
DEFINITION. The events of the meter units: a change of the meter channels (R31) and the end of a flow
window (R30), with the report to the hose controller (R43).
-/

namespace Sys2Proof.Machine

/-! ### PHASE_CHANGE (R31) -/

/-- R31: whether a new phase adds one to the phase-error window counter: once for the window. -/
def countsPhaseError (m : Meter) (new : MeterPhase) : Bool := bothChange m.phase new && !m.phaseError

/-- PHASE_CHANGE: R31. In CONFIG and on a hose that is not fitted the decoder only follows the inputs
(R30). -/
def execPhaseChange (h : HoseId) (chA chB : Bool) (s : State) : Host.Outcome State Fault Refusal :=
  let m := s.meter h
  let new := phaseOf chA chB
  if s.fittedRunning h then
    let s1 := s.modMeter h (stepDecoder new)
    if countsPhaseError m new then
      .next (s1.modHoseCounters h fun c => { c with phaseErrors := c.phaseErrors.inc })
    else .next s1
  else .next (s.modMeter h fun x => { x with phase := new })

/-! ### FLOW_WINDOW_END (R30, R43) -/

/-- R43: the ending that a report with a fault takes; METER_FAULT before METER_REVERSE (R38). -/
def reportedFault (r : WindowReport) : Option EndReason :=
  if r.fault then some .meterFault else if r.reverse then some .meterReverse else none

/-- R43: the hose takes the report in its present state. -/
def takeReport (h : HoseId) (r : WindowReport) (s : State) : State :=
  match reportedFault r with
  | some e => endDispense h e true s
  | none =>
    match (s.hose h).state with
    | .running | .slowing => closeTests h (if r.flowed then restartNoFlow h s else s)
    | .idle | .lifted | .checking | .holding | .paused | .closing | .ended | .refused
    | .disabled => s

/-- R32 to R43: a dispense window. -/
def dispenseWindowEnd (h : HoseId) (sample : Int) (s : State) : State :=
  let c := s.hoseCfg h
  let alpha := (s.tankCfg c.tank).alpha
  let m := s.meter h
  let r := windowReport c alpha sample m
  let s1 := s.modMeter h (dispenseWindow c alpha sample)
  let s2 := s1.modHoseCounters h fun k =>
    { k with reverseDiscarded := k.reverseDiscarded.add r.reverseDiscarded }
  let s3 := modDispense h (fun d =>
    { d with flags := { d.flags with
        meterWarn := d.flags.meterWarn || r.meterWarn
        uncompensated := d.flags.uncompensated || r.uncompensated } }) s2
  takeReport h r s3

/-- R30: a window end in the period the hose is in. -/
def windowEnd (h : HoseId) (sample : Int) (s : State) : State :=
  if (s.hose h).state.dispensing then dispenseWindowEnd h sample s
  else if (s.meter h).lateActive then lateProcess h (s.modMeter h (holdSample sample))
  else s.modMeter h fun m => clearWindow (holdSample sample m)

/-- FLOW_WINDOW_END: R30. -/
def execFlowWindowEnd (h : HoseId) (sample : Int) (s : State) :
    Host.Outcome State Fault Refusal :=
  if s.fittedRunning h then .next (settleTanks none s (windowEnd h sample s)) else .next s

end Sys2Proof.Machine
end

