-- ==== Sys2Proof/Machine/PortEvents.lean ====
section
/-!
DEFINITION. The events of the yard ports (R133 to R142): attempts, completions, failures, recoveries,
the modem's clear-to-send, the frames received and the silence timer.
-/

namespace Sys2Proof.Machine

/-! ### Transmission reports (R129, R9) -/

/-- R129: the report to the hose that awaits this HOLD; it is disregarded by a hose that does not. -/
def reportSent (p : PortId) (e : QueueEntry) (coils : Quad CoilSense) (s : State) : State :=
  match e.hold with
  | none => s
  | some (h, n) =>
    let x := s.hose h
    match x.dispense with
    | none => s
    | some d =>
      if x.phase = .awaiting ∧ d.holdNumber = n then
        checkAwaited h (coils.get h) (s.modHose h fun y =>
          { y with waitPorts := y.waitPorts.put p false })
      else s

/-- R129: an entry has been sent on a port: it leaves its queue, a freed urgent entry is offered, and the
hose that awaits it is told. -/
def entrySent (p : PortId) (d : Sending) (coils : Quad CoilSense) (s : State) : State :=
  reportSent p d.entry coils (offerUrgent p (s.modPort p (finishFrame p d)))

/-! ### Port A (R133 to R137) -/

/-- FRAME_ATTEMPT: R133. -/
def execFrameAttempt (s : State) : Host.Outcome State Fault Refusal :=
  if canBegin s.portA then .next (s.modPort .a beginFrame) else .next s

/-- CONTENTION_LOST: R134: the entry stays at the head of its queue, and no failure is counted. -/
def execContentionLost (s : State) : Host.Outcome State Fault Refusal :=
  .next (s.modPort .a fun x => { x with sending := none })

/-- R135, R136, R137: one transmit failure; the sixteenth takes the port to FAULT. -/
def countFailure (coils : Quad CoilSense) (s : State) : State :=
  let n := min failLimit (s.portA.failCount + 1)
  let s1 := s.modPort .a fun x => { x with sending := none, failCount := n }
  if n = failLimit then enterFault .a .transmit coils s1 else s1

/-- TRANSMIT_FAILURE: R135. -/
def execTransmitFailure (coils : Quad CoilSense) (s : State) : Host.Outcome State Fault Refusal :=
  if s.portA.sending.isSome then .next (settleTanks none s (countFailure coils s)) else .next s

/-- NO_IDLE_TIMEOUT: R136: an entry waits on a port that transmits, and the line has not been idle. -/
def execNoIdleTimeout (coils : Quad CoilSense) (s : State) : Host.Outcome State Fault Refusal :=
  if canBegin s.portA then .next (settleTanks none s (countFailure coils s)) else .next s

/-- PORT_A_FRAME_COMPLETE: R135: the failure count returns to 0 and the entry leaves its queue. -/
def execPortAFrameComplete (coils : Quad CoilSense) (s : State) :
    Host.Outcome State Fault Refusal :=
  match s.portA.sending with
  | none => .next s
  | some d =>
    .next (settleTanks none s
      (entrySent .a d coils (s.modPort .a fun x => { x with failCount := 0 })))

/-- RECOVERY_EXPIRY: R137. -/
def execRecoveryExpiry (s : State) : Host.Outcome State Fault Refusal :=
  if s.portA.recoveryTimer.isSome = true ∧ s.portA.cause = some .transmit then
    .next (afterPortChange s (activate .a (s.modPort .a fun x => { x with failCount := 0 })))
  else .next s

/-- Whether a port receives (R127). -/
def receives (x : Port) : Bool := decide (x.state ≠ .off)

/-- PORT_A_FRAME_RECEIVED: R138: the bits from a start bit on, on a port that is not sending. -/
def execPortAFrameReceived (bits : List Bool) (coils : Quad CoilSense) (s : State) :
    Host.Outcome State Fault Refusal :=
  if receives s.portA && s.portA.sending.isNone then
    match decodeA bits with
    | some f => .next (settleTanks none s (receiveFrame .a f coils s))
    | none => .next (countCheckError .a s)
  else .next s

/-! ### Port B (R139 to R142) -/

/-- PORT_B_FRAME_START: R140. -/
def execPortBFrameStart (s : State) : Host.Outcome State Fault Refusal :=
  if canBegin s.portB && s.portB.cts then .next (s.modPort .b beginFrame) else .next s

/-- PORT_B_FRAME_SENT: R140. -/
def execPortBFrameSent (coils : Quad CoilSense) (s : State) : Host.Outcome State Fault Refusal :=
  match s.portB.sending with
  | none => .next s
  | some d => .next (settleTanks none s (entrySent .b d coils s))

/-- R141: clear-to-send as the port sees it. -/
def setCts (v : Bool) (s : State) : State := s.modPort .b fun x => Port.sync .b { x with cts := v }

/-- CTS_FALL: R141. -/
def execCtsFall (s : State) : Host.Outcome State Fault Refusal := .next (setCts false s)

/-- CTS_RISE: R141: a rising edge stops the stall timer and ends a FAULT with cause STALL. -/
def execCtsRise (s : State) : Host.Outcome State Fault Refusal :=
  let s1 := setCts true s
  if s.portB.state = .fault ∧ s.portB.cause = some .stall then
    .next (afterPortChange s (activate .b s1))
  else .next s1

/-- STALL_EXPIRY: R141. -/
def execStallExpiry (coils : Quad CoilSense) (s : State) : Host.Outcome State Fault Refusal :=
  if s.portB.stallTimer.isSome = true ∧ s.portB.state.live = true then
    .next (settleTanks none s (enterFault .b .stall coils s))
  else .next s

/-- R142: whether the first of these bytes can be a header. -/
def startsFrame (x : Port) (bytes : List LineByte) : Bool :=
  match bytes with
  | [] => false
  | b :: _ => b.gapBefore || !x.resync

/-- PORT_B_FRAME_RECEIVED: R142: bytes from the modem up to the end of a frame or of a fragment of one. A
byte that cannot be a header is not taken. The byte that ends a gap begins the next frame: it comes first in
a command of its own, after the fragment before the gap (log 28). -/
def execPortBFrameReceived (bytes : List LineByte) (coils : Quad CoilSense) (s : State) :
    Host.Outcome State Fault Refusal :=
  if receives s.portB && startsFrame s.portB bytes then
    match decodeB bytes with
    | some f =>
      .next (settleTanks none s
        (receiveFrame .b f coils (s.modPort .b fun x => { x with resync := false })))
    | none => .next (countCheckError .b (s.modPort .b fun x => { x with resync := true }))
  else .next s

/-! ### The silence timer (R127) -/

/-- SILENCE_EXPIRY: R127. -/
def execSilenceExpiry (p : PortId) (s : State) : Host.Outcome State Fault Refusal :=
  let x := s.port p
  if x.silenceTimer.isSome = true ∧ x.state = .active then
    .next (movePort p .silent none (s.modPort p fun y => { y with silenceTimer := none }))
  else .next s

end Sys2Proof.Machine
end

