-- ==== Sys2Proof/Machine/TagEvents.lean ====
section
/-!
DEFINITION. The events of the tag links: bytes, pages, discards, overruns, breaks, the tag watch and the
lamp commands (R50 to R60).

A page that completes is one command (R53); its bytes are those of R187, and the bytes already held must
be the beginning of them (log 23).
-/

namespace Sys2Proof.Machine

/-! ### Identity pages (R53, R54, R56, R57) -/

/-- R53, step 3; R56: in WATCH a page of the accepted identity restarts the tag watch. -/
def restartWatch (e : TagEntry) (t : TagLink) : TagLink :=
  if t.mode = .watch ∧ t.accepted = some ⟨e.vehicle, e.cls⟩ then
    { t with watchTimer := some tagWatchMs }
  else t

/-- R53, steps 1 to 3: the page on the link. -/
def takePage (e : TagEntry) (t : TagLink) : TagLink :=
  restartWatch e (if isRepeat e t.tracker then t else { t with tracker := track e t.tracker })

/-- R54, R6: the run test in SEEK: a consistent run is the accepted identity, and the hose in LIFTED
enters CHECKING. -/
def seekTest (h : HoseId) (coil : CoilSense) (s : State) : State :=
  match consistentRun (s.tag h).tracker with
  | none => s
  | some i =>
    let s1 := s.modTag h fun t => { t with accepted := some i }
    if (s.hose h).state = .lifted then checking h i.vehicle (some i.cls) coil s1 else s1

/-- R57, R14: the run test in SEARCH: a return, or a different vehicle. -/
def searchTest (h : HoseId) (s : State) : State :=
  match consistentRun (s.tag h).tracker with
  | none => s
  | some i =>
    if (s.hose h).state = .paused then
      if (s.tag h).accepted = some i then tagReturned h s else toClosing h .tagChanged false s
    else s

/-- R53: an identity page in the mode of its link. -/
def identityEffect (h : HoseId) (e : TagEntry) (coil : CoilSense) (s : State) : State :=
  let t := s.tag h
  if takesIdentity t.mode then
    let fresh := !isRepeat e t.tracker
    let s1 := s.modTag h (takePage e)
    match t.mode with
    | .seek => if fresh then seekTest h coil s1 else s1
    | .search => if fresh then searchTest h s1 else s1
    | .wait | .watch | .quiet | .manual => s1
  else s

/-- IDENTITY_PAGE: R53. -/
def execIdentityPage (h : HoseId) (vehicle : Half) (cls : ClassId) (toggle : Bool)
    (coils : Quad CoilSense) (s : State) : Host.Outcome State Fault Refusal :=
  if completes s h (identityBytes vehicle cls toggle) then
    .next (settleTanks none s
      (identityEffect h ⟨vehicle.toNat, cls, toggle⟩ (coils.get h) (s.modTag h endMessage)))
  else .next s

/-! ### Hours pages (R55, R83, R84) -/

/-- R55, R6: the adoption: the dispense's engine hours, and the reading given to the vehicle table. -/
def adoptHours (h : HoseId) (hours : Nat) (s : State) : State :=
  let s1 := s.modTag h fun t => { t with hoursAdopted := true }
  let s2 := modDispense h (fun d => { d with engineHours := some hours }) s1
  match (s.hose h).dispense with
  | some d => deriveStatus d.vehicle (tagReading d.vehicle hours s2)
  | none => s2

/-- R53, R55: an hours page in the mode of its link. -/
def hoursEffect (h : HoseId) (toggle : Bool) (hours : Nat) (s : State) : State :=
  let t := s.tag h
  if takesHours t.mode && adopts t toggle then adoptHours h hours s else s

/-- HOURS_PAGE: R55. Hours out of range make no page (R50). -/
def execHoursPage (h : HoseId) (toggle : Bool) (hours : Word) (s : State) :
    Host.Outcome State Fault Refusal :=
  if completes s h (hoursBytes toggle hours) = true ∧ hours.toNat ≤ maxHours then
    .next (hoursEffect h toggle hours.toNat (s.modTag h endMessage))
  else .next s

/-! ### Bytes and discards (R50, R51) -/

/-- R50: the message takes a byte and stays incomplete; the line is open to the rest of it (R49). -/
def keepByte (m : List Byte) (t : TagLink) : TagLink :=
  settleLine { t with
    message := m, gapTimer := some tagGapMs, leftover := .none, dataLow := false }

/-- R50: a byte from the reader: one of a discarded message passes; any other is taken by `act`, after the
expiry of the gap timer if a gap came before it. -/
def onTagByte (h : HoseId) (x : TagByte) (act : TagOutcome → State → State) (s : State) : State :=
  if receiving s h then
    if ofDiscarded (s.tag h) x then s.modTag h passByte
    else
      let s1 := if x.gapBefore then gapExpired h s else s
      act (tagOutcome (s1.tag h).message x) s1
  else s

/-- TAG_BYTE_RECEIVED: R50: a good byte that leaves its message incomplete. -/
def execTagByteReceived (h : HoseId) (x : TagByte) (s : State) : Host.Outcome State Fault Refusal :=
  .next (onTagByte h x (fun o y =>
    match o with
    | .incomplete m => y.modTag h (keepByte m)
    | .discard => s
    | .complete _ => s) s)

/-- TAG_MESSAGE_DISCARD: R50: a byte that makes its message a discarded one. -/
def execTagMessageDiscard (h : HoseId) (x : TagByte) (s : State) :
    Host.Outcome State Fault Refusal :=
  .next (onTagByte h x (fun o y =>
    match o with
    | .discard => discardAt h x y
    | .incomplete _ => s
    | .complete _ => s) s)

/-- GAP_TIMEOUT: R50. -/
def execGapTimeout (h : HoseId) (s : State) : Host.Outcome State Fault Refusal :=
  .next (gapExpired h s)

/-- TAG_OVERRUN: R51: the reader's data falls while the part holds the clock. -/
def execTagOverrun (h : HoseId) (s : State) : Host.Outcome State Fault Refusal :=
  if s.fittedRunning h = true ∧ (s.tag h).line = .held then .next (overrunLine h s) else .next s

/-! ### Breaks (R52) -/

/-- R52: the line enters BREAK: the message dropped without counting, the tracker cleared, the tag watch
stopped if the mode was WATCH. -/
def breakLine (t : TagLink) : TagLink :=
  { dropMessage t with
    line := .broken
    dataLow := false
    tracker := []
    watchTimer := if t.mode = .watch then none else t.watchTimer }

/-- R52: the report of a reader fault, by the mode at the start of the break. -/
def breakReport (h : HoseId) (m : TagMode) (s : State) : State :=
  match m with
  | .seek => post h.val .tagFault s
  | .watch => tagLost h s
  | .wait | .search | .manual | .quiet => s

/-- BREAK_START: R52: with the line in OPEN or HELD. -/
def execBreakStart (h : HoseId) (s : State) : Host.Outcome State Fault Refusal :=
  let t := s.tag h
  if s.fittedRunning h = true ∧ (t.line = .opened ∨ t.line = .held) then
    .next (breakReport h t.mode (countTagFault h (s.modTag h breakLine)))
  else .next s

/-- R51, R52: data is high again: a break ends, or the low that an overrun left. -/
def dataRises (t : TagLink) : TagLink :=
  match t.line with
  | .broken => restLine { t with dataLow := false }
  | .held | .opened => if t.dataLow then settleLine { t with dataLow := false } else t
  | .sending => t

/-- BREAK_END: R52: the data line returns high. After an overrun that was no break it ends the overrun
(R51, log 37). -/
def execBreakEnd (h : HoseId) (s : State) : Host.Outcome State Fault Refusal :=
  .next (s.modTag h dataRises)

/-! ### The tag watch (R56) -/

/-- TAG_WATCH_EXPIRY: R56. -/
def execTagWatchExpiry (h : HoseId) (s : State) : Host.Outcome State Fault Refusal :=
  let t := s.tag h
  if t.watchTimer.isSome = true ∧ t.mode = .watch then
    .next (tagLost h (s.modTag h fun x => { x with watchTimer := none }))
  else .next s

/-! ### Lamp commands (R59, R60) -/

/-- LAMP_COMMAND_SEND: R59. -/
def execLampCommandSend (h : HoseId) (s : State) : Host.Outcome State Fault Refusal :=
  if s.fittedRunning h && canSendLamp (s.tag h) then .next (s.modTag h sendLamp) else .next s

/-- LAMP_COMMAND_COMPLETE: R60. -/
def execLampCommandComplete (h : HoseId) (s : State) : Host.Outcome State Fault Refusal :=
  if (s.tag h).inFlight.isSome then .next (s.modTag h endLamp) else .next s

/-- LAMP_COMMAND_DROPPED: R60. -/
def execLampCommandDropped (h : HoseId) (s : State) : Host.Outcome State Fault Refusal :=
  if (s.tag h).lampTimer.isSome then .next (countTagFault h (s.modTag h endLamp)) else .next s

end Sys2Proof.Machine
end

