-- ==== Sys2Proof/Machine/Walker.lean ====
section
/-!
DEFINITION. The refresh walker (R159 to R161), the refresh and the expiry of hold entries (R118, R121),
and the tick (R180).
-/

namespace Sys2Proof.Machine

/-! ### One step of the walker (R160) -/

/-- The ports that the walker offers to: configured, and ACTIVE or SILENT. -/
def walkerPort (s : State) (p : PortId) : Bool := (s.portCfg p).configured && (s.port p).state.live

/-- What a step announces: a record, whether by a wrap, or the next tank, whether by a wrap. -/
inductive WalkerItem where
  | vehicle (r : VehicleRecord) (wrap : Bool)
  | tank (wrap : Bool)
deriving DecidableEq, Repr

/-- R160, step 2: the first announceable record above the position. -/
def nextRecord (s : State) : Option VehicleRecord :=
  s.vehicles.find? fun r =>
    announceable r &&
      match s.walker.position with
      | none => true
      | some v => decide (v < r.vehicle)

/-- R160, step 2: the item of the step. -/
def walkerItem (s : State) : WalkerItem :=
  if s.walker.stepCount = walkerVehicleSteps then .tank false
  else
    match nextRecord s with
    | some r => .vehicle r false
    | none =>
      match s.vehicles.find? announceable with
      | some r => .vehicle r true
      | none => .tank true

/-- R160, step 3: the parts of the item, built from the tables as they stand. -/
def itemFrames (s : State) (i : WalkerItem) : List Frame :=
  match i with
  | .vehicle r _ => stateFrames s r
  | .tank _ => stockFrames s s.walker.nextTank

/-- R130, R160: whether every port offered to admits a group of `k`. -/
def admitsGroup (s : State) (k : Nat) : Bool :=
  (!walkerPort s .a || decide (admissionMargin + k ≤ freeRoutine s .a))
    && (!walkerPort s .b || decide (admissionMargin + k ≤ freeRoutine s .b))

/-- R160, step 4: the group as refresh entries on every port offered to. -/
def placeGroup (fs : List Frame) (s : State) : State :=
  let es := fs.map fun f => (⟨f, .refresh, none⟩ : QueueEntry)
  forPorts (fun p x => if walkerPort s p then pushRoutineAll p es x else x) s

/-- The wrap mark of a step. -/
def WalkerItem.wraps (i : WalkerItem) : Bool :=
  match i with
  | .vehicle _ w => w
  | .tank w => w

/-- R160, step 4: the fast pass after a step: its wrap mark and its count of tank steps. -/
def advanceFast (i : WalkerItem) (f : FastPass) : FastPass where
  wrapped := f.wrapped || i.wraps
  tanks :=
    match i with
    | .vehicle _ _ => f.tanks
    | .tank _ => min fastPassTanks (f.tanks + 1)

/-- R161: the fast pass ends with its wrap mark set and four tank steps made. -/
def keepFast (f : FastPass) : Option FastPass :=
  if f.wrapped = true ∧ fastPassTanks ≤ f.tanks then none else some f

/-- R160, step 4; R161: the walker's state after a placed step. -/
def advanceWalker (i : WalkerItem) (w : Walker) : Walker :=
  let fast := (w.fast.map (advanceFast i)).bind keepFast
  match i with
  | .vehicle r _ => { w with position := some r.vehicle, stepCount := w.stepCount + 1, fast := fast }
  | .tank _ => { w with stepCount := 0, nextTank := w.nextTank + 1, fast := fast }

/-- R160: the step timer restarts at the interval in force. -/
def restartStepTimer (s : State) : State :=
  s.modWalker fun w =>
    { w with
      stepTimer := some (if w.fast.isSome then fastInterval s else s.cfg.station.refreshInterval) }

/-- R160: the walker tries one step. -/
def walkerTry (s : State) : State :=
  if walkerPort s .a || walkerPort s .b then
    let i := walkerItem s
    let fs := itemFrames s i
    if admitsGroup s fs.length then (placeGroup fs s).modWalker (advanceWalker i) else s
  else s

/-- WALKER_STEP: R160. -/
def execWalkerStep (s : State) : Host.Outcome State Fault Refusal :=
  if s.started = true ∧ s.walker.stepTimer.isSome = true then .next (restartStepTimer (walkerTry s))
  else .next s

/-! ### Hold entries (R118, R121) -/

/-- R118: whether the own entry of a hose is due: its dispense is open, its HOLD has been queued, and its
age has reached 20 s. -/
def refreshDue (s : State) (h : HoseId) (e : HoldEntry) : Bool :=
  s.started && (s.hose h).state.dispensing && decide ((s.hose h).phase ≠ .queueWait)
    && decide (refreshAge ≤ e.age)

/-- R118: a HOLD refresh on every usable port with a free urgent entry; the age restarts. -/
def refreshHold (h : HoseId) (e : HoldEntry) (s : State) : State :=
  let entry : QueueEntry := ⟨holdFrame s e (remaining s e), .ordinary, none⟩
  restartAge h
    (forPorts (fun p x =>
      if usable x p && decide (0 < freeUrgent x p) then pushUrgent p entry x else x) s)

/-- HOLD_REFRESH: R118. -/
def execHoldRefresh (h : HoseId) (s : State) : Host.Outcome State Fault Refusal :=
  match ownHold s h with
  | none => .next s
  | some e => if refreshDue s h e then .next (refreshHold h e s) else .next s

/-- R121: a peer entry expires. -/
def expireHold (station : Nat) (h : HoseId) (s : State) : State :=
  settleTanks none s
    { s with holds := dropHold station h s.holds, holdExpiries := s.holdExpiries.inc }

/-- HOLD_EXPIRY: R121. -/
def execHoldExpiry (station : Nat) (h : HoseId) (s : State) : Host.Outcome State Fault Refusal :=
  match findHold station h s.holds with
  | none => .next s
  | some e =>
    if s.started = true ∧ station ≠ s.ownNumber ∧ expiryAge ≤ e.age then
      .next (expireHold station h s)
    else .next s

/-! ### The tick (R180) -/

/-- TICK: R180, R116: one second passes: the tick and the ages of the hold entries rise. -/
def execTick (s : State) : Host.Outcome State Fault Refusal :=
  if s.started then
    .next { s with
      tick := (s.tick + 1) % 4294967296
      holds := s.holds.map fun e => { e with age := e.age + 1 } }
  else .next s

end Sys2Proof.Machine
end

