-- ==== Sys2Proof/Machine/Dispatch.lean ====
section
/-!
DEFINITION. The meaning of every command: one arm for each constructor of `Instr`, each one call.
-/

namespace Sys2Proof.Machine

def exec (i : Instr) (s : State) : Host.Outcome State Fault Refusal :=
  match i with
  | .powerOnReset => Sys2Proof.Machine.execPowerOnReset s
  | .setStation item value => Sys2Proof.Machine.execSetStation item value s
  | .setClass index item value => Sys2Proof.Machine.execSetClass index item value s
  | .setHose index item value => Sys2Proof.Machine.execSetHose index item value s
  | .setTank index item value => Sys2Proof.Machine.execSetTank index item value s
  | .start => Sys2Proof.Machine.execStart s
  | .restart => Sys2Proof.Machine.execRestart s
  | .enrolVehicle vehicle cls => Sys2Proof.Machine.execEnrolVehicle vehicle cls s
  | .retireVehicle vehicle => Sys2Proof.Machine.execRetireVehicle vehicle s
  | .setPreset hose litres => Sys2Proof.Machine.execSetPreset hose litres s
  | .manualAuthorise hose vehicle coils => Sys2Proof.Machine.execManualAuthorise hose vehicle coils s
  | .stopHose hose => Sys2Proof.Machine.execStopHose hose s
  | .returnHose hose => Sys2Proof.Machine.execReturnHose hose s
  | .openShift => Sys2Proof.Machine.execOpenShift s
  | .recordService vehicle presence hours => Sys2Proof.Machine.execRecordService vehicle presence hours s
  | .recordDelivery tank volume => Sys2Proof.Machine.execRecordDelivery tank volume s
  | .reopenTank tank opening => Sys2Proof.Machine.execReopenTank tank opening s
  | .reportGauge tank volume => Sys2Proof.Machine.execReportGauge tank volume s
  | .soundAlert tenths => Sys2Proof.Machine.execSoundAlert tenths s
  | .readStation => Sys2Proof.Machine.execReadStation s
  | .readHose hose => Sys2Proof.Machine.execReadHose hose s
  | .readVehicle vehicle => Sys2Proof.Machine.execReadVehicle vehicle s
  | .readTank tank => Sys2Proof.Machine.execReadTank tank s
  | .readCounters group => Sys2Proof.Machine.execReadCounters group s
  | .fetchEvent => Sys2Proof.Machine.execFetchEvent s
  | .badCommand code => Sys2Proof.Machine.execBadCommand code s
  | .dataWrite mosi coils => Sys2Proof.Machine.execDataWrite mosi coils s
  | .dataRead => Sys2Proof.Machine.execDataRead s
  | .switchInitialLevel hose lifted => Sys2Proof.Machine.execSwitchInitialLevel hose lifted s
  | .lift hose => Sys2Proof.Machine.execLift hose s
  | .hangUp hose => Sys2Proof.Machine.execHangUp hose s
  | .liftTimeout hose => Sys2Proof.Machine.execLiftTimeout hose s
  | .holdQueued hose coils => Sys2Proof.Machine.execHoldQueued hose coils s
  | .queueWaitExpiry hose => Sys2Proof.Machine.execQueueWaitExpiry hose s
  | .settleExpiry hose coil => Sys2Proof.Machine.execSettleExpiry hose coil s
  | .phaseChange hose chA chB => Sys2Proof.Machine.execPhaseChange hose chA chB s
  | .flowWindowEnd hose sample => Sys2Proof.Machine.execFlowWindowEnd hose sample s
  | .noFlowExpiry hose => Sys2Proof.Machine.execNoFlowExpiry hose s
  | .durationExpiry hose => Sys2Proof.Machine.execDurationExpiry hose s
  | .serviceLampExpiry hose => Sys2Proof.Machine.execServiceLampExpiry hose s
  | .tagReturnExpiry hose => Sys2Proof.Machine.execTagReturnExpiry hose s
  | .afterFlowExpiry hose => Sys2Proof.Machine.execAfterFlowExpiry hose s
  | .issueQueued port => Sys2Proof.Machine.execIssueQueued port s
  | .identityPage hose vehicle cls toggle coils => Sys2Proof.Machine.execIdentityPage hose vehicle cls toggle coils s
  | .hoursPage hose toggle hours => Sys2Proof.Machine.execHoursPage hose toggle hours s
  | .tagMessageDiscard hose byte => Sys2Proof.Machine.execTagMessageDiscard hose byte s
  | .gapTimeout hose => Sys2Proof.Machine.execGapTimeout hose s
  | .tagOverrun hose => Sys2Proof.Machine.execTagOverrun hose s
  | .breakStart hose => Sys2Proof.Machine.execBreakStart hose s
  | .breakEnd hose => Sys2Proof.Machine.execBreakEnd hose s
  | .tagWatchExpiry hose => Sys2Proof.Machine.execTagWatchExpiry hose s
  | .lampCommandSend hose => Sys2Proof.Machine.execLampCommandSend hose s
  | .lampCommandComplete hose => Sys2Proof.Machine.execLampCommandComplete hose s
  | .lampCommandDropped hose => Sys2Proof.Machine.execLampCommandDropped hose s
  | .alertPatternEnd => Sys2Proof.Machine.execAlertPatternEnd s
  | .frameAttempt => Sys2Proof.Machine.execFrameAttempt s
  | .contentionLost => Sys2Proof.Machine.execContentionLost s
  | .transmitFailure coils => Sys2Proof.Machine.execTransmitFailure coils s
  | .noIdleTimeout coils => Sys2Proof.Machine.execNoIdleTimeout coils s
  | .portAFrameComplete coils => Sys2Proof.Machine.execPortAFrameComplete coils s
  | .recoveryExpiry => Sys2Proof.Machine.execRecoveryExpiry s
  | .portAFrameReceived bits coils => Sys2Proof.Machine.execPortAFrameReceived bits coils s
  | .portBFrameStart => Sys2Proof.Machine.execPortBFrameStart s
  | .portBFrameSent coils => Sys2Proof.Machine.execPortBFrameSent coils s
  | .ctsFall => Sys2Proof.Machine.execCtsFall s
  | .ctsRise => Sys2Proof.Machine.execCtsRise s
  | .stallExpiry coils => Sys2Proof.Machine.execStallExpiry coils s
  | .portBFrameReceived bytes coils => Sys2Proof.Machine.execPortBFrameReceived bytes coils s
  | .silenceExpiry port => Sys2Proof.Machine.execSilenceExpiry port s
  | .holdMerge port => Sys2Proof.Machine.execHoldMerge port s
  | .rollcallMerge port => Sys2Proof.Machine.execRollcallMerge port s
  | .shiftMerge port => Sys2Proof.Machine.execShiftMerge port s
  | .serviceMerge port => Sys2Proof.Machine.execServiceMerge port s
  | .issueMerge port => Sys2Proof.Machine.execIssueMerge port s
  | .stateMerge port => Sys2Proof.Machine.execStateMerge port s
  | .stockMerge port => Sys2Proof.Machine.execStockMerge port s
  | .holdRefresh hose => Sys2Proof.Machine.execHoldRefresh hose s
  | .holdExpiry station hose => Sys2Proof.Machine.execHoldExpiry station hose s
  | .walkerStep => Sys2Proof.Machine.execWalkerStep s
  | .tagByteReceived hose byte => Sys2Proof.Machine.execTagByteReceived hose byte s
  | .nonNoticeFrameMerge port => Sys2Proof.Machine.execNonNoticeFrameMerge port s
  | .tick => Sys2Proof.Machine.execTick s

end Sys2Proof.Machine
end

