-- ==== Sys2Proof/Safety.lean ====
section
/-!
DEFINITION. What a state of the station keeps: the invariants that the statements speak of, each from the
rule it names.
-/

namespace Sys2Proof.Machine

/-- R172, R162: at most 32 events wait, and the events-lost count is at most 65,535. -/
def eventsBounded (s : State) : Prop :=
  s.console.events.length ≤ 32 ∧ s.console.eventsLost ≤ 65535

/-- R167: the interrupt line is asserted exactly while an event waits, or a result whose completion code
has not been read. -/
def interruptFollows (s : State) : Prop :=
  s.console.intLine = true ↔
    s.console.events ≠ [] ∨ (s.console.phase = .result ∧ s.console.codeRead = false)

/-- R3: the outputs follow the hose state: the main valve is open in RUNNING alone, the slow valve in
RUNNING and SLOWING, and the pump is on in RUNNING, SLOWING and PAUSED. -/
def outputsFollow (s : State) : Prop :=
  ∀ h : HoseId,
    ((s.hose h).mainValve = true ↔ (s.hose h).state = .running) ∧
    ((s.hose h).slowValve = true ↔ (s.hose h).state = .running ∨ (s.hose h).state = .slowing) ∧
    ((s.hose h).pump = true ↔
      (s.hose h).state = .running ∨ (s.hose h).state = .slowing ∨ (s.hose h).state = .paused)

/-- R63: the records stand in ascending vehicle number, so at most one for each, and are at most 320. -/
def tableOrdered (s : State) : Prop :=
  s.vehicles.Pairwise (fun a b => a.vehicle < b.vehicle) ∧ s.vehicles.length ≤ 320

/-- R116: at most one entry for each (station, hose) pair; the list stands in the order of R169, by
station and then hose, each pair strictly after the one before it. -/
def holdListOrdered (s : State) : Prop :=
  s.holds.Pairwise fun a b => a.station < b.station ∨ (a.station = b.station ∧ a.hose < b.hose)

/-- R125, R144: a port's receive FIFO holds at most 16 frames. -/
def fifosBounded (s : State) : Prop :=
  s.portA.fifo.length ≤ 16 ∧ s.portB.fifo.length ≤ 16

/-- R71: no vehicle record's shift number exceeds σ. -/
def shiftsBelow (s : State) : Prop := ∀ r ∈ s.vehicles, r.shift ≤ s.sigma

/-- R49, R51, R59, R60: a line is in SENDING exactly while a lamp command is in flight, whose bits it then presents
and whose timer runs then and only then; in HELD and OPEN it is as the conditions call for. R50: the gap timer runs
exactly while a message is in progress. -/
def tagLinesFollow (s : State) : Prop :=
  ∀ h : HoseId,
    ((s.tag h).line = .sending ↔ (s.tag h).inFlight.isSome = true) ∧
    ((s.tag h).lampTimer.isSome = true ↔ (s.tag h).inFlight.isSome = true) ∧
    (s.tag h).lampBits = ((s.tag h).inFlight.map lampFrame).getD [] ∧
    ((s.tag h).gapTimer.isSome = true ↔ (s.tag h).message ≠ []) ∧
    ((s.tag h).line = .held ∨ (s.tag h).line = .opened → (s.tag h).line = restingLine (s.tag h))

/-! ### The hoses, the tanks and the ports together

These clauses hold together: each leans on the others. -/

/-- R23, R177: a hose that is not fitted, and every hose in CONFIG, is in DISABLED. -/
def idleDisabled (s : State) : Prop :=
  ∀ h : HoseId, s.started = false ∨ (s.hoseCfg h).fitted = false → (s.hose h).state = .disabled

/-- R1, R8, R9, R18: a dispense is open in HOLDING, RUNNING, SLOWING, PAUSED and CLOSING and in no other
state; a sub-phase of HOLDING is on in HOLDING alone; an ISSUE is owed in ENDED and REFUSED alone. -/
def dispensesFollow (s : State) : Prop :=
  ∀ h : HoseId,
    ((s.hose h).dispense.isSome = true ↔
      (s.hose h).state = .holding ∨ (s.hose h).state = .running ∨ (s.hose h).state = .slowing ∨
        (s.hose h).state = .paused ∨ (s.hose h).state = .closing) ∧
    ((s.hose h).phase ≠ .none → (s.hose h).state = .holding) ∧
    ((s.hose h).pendingIssue ≠ ⟨false, false⟩ →
      (s.hose h).state = .ended ∨ (s.hose h).state = .refused)

/-- R15, R101: no hose of a tank in CUTOFF issues, and none waits in HOLDING to issue. -/
def cutoffStops (s : State) : Prop :=
  ∀ h : HoseId, (s.tank (s.hoseCfg h).tank).stage = .cutoff →
    (s.hose h).state ≠ .holding ∧ (s.hose h).state ≠ .running ∧ (s.hose h).state ≠ .slowing ∧
      (s.hose h).state ≠ .paused

/-- R127: a port is in OFF exactly in CONFIG or when it is not configured, and it has a cause in FAULT
alone (R125). -/
def portsFollow (s : State) : Prop :=
  ∀ p : PortId,
    ((s.port p).state = .off ↔ s.started = false ∨ (s.portCfg p).configured = false) ∧
    ((s.port p).cause.isSome = true → (s.port p).state = .fault)

/-- R125, R127, R131, R143: a port in OFF or FAULT has nothing to send and nothing in progress, and no
hose waits for room in its queue. -/
def silentPortsEmpty (s : State) : Prop :=
  ∀ p : PortId, (s.port p).state = .off ∨ (s.port p).state = .fault →
    (s.port p).urgent = [] ∧ (s.port p).routine = [] ∧ (s.port p).sending = none ∧
      ∀ h : HoseId, (s.hose h).phase = .queueWait → (s.hose h).waitPorts.mem p = false

/-- The clauses together. -/
def coherent (s : State) : Prop :=
  idleDisabled s ∧ dispensesFollow s ∧ cutoffStops s ∧ portsFollow s ∧ silentPortsEmpty s

end Sys2Proof.Machine
end

