-- ==== Sys2Proof/Certificates/Slice0/Obligations.lean ====
section
/-!
DEFINITION. The statements for the provers: what each command does to the station, by the rules of the
spec, and what every step keeps.

The helpers below say in plain records what a completed command, a posted event and a moved hose are, so
that a statement rests on no operation of the model unless it names one. A statement about a command has
the form "`exec` answers next", with the next state given or described, and its frame: an equation
`{ t with … } = s` says that nothing of the state changed but the parts it names.
-/

namespace Sys2Proof.Machine

/-! ### What the statements are written with -/

/-- R165, R167: a command completed with a code and result bytes. -/
def completed (code : Byte) (bytes : List Byte) (s : State) : State :=
  { s with console := { s.console with
      phase := .result, command := none, result := code :: bytes, readPos := 0, codeRead := false
      intLine := true } }

/-- R172, R167: an event posted: the newest of at most 32 entries, or dropped and counted. -/
def posted (subject : Nat) (d : EventDetail) (s : State) : State :=
  if s.console.events.length < 32 then
    { s with console := { s.console with
        events := s.console.events ++ [⟨s.tick, subject, d⟩], intLine := true } }
  else
    { s with console := { s.console with
        eventsLost := min 65535 (s.console.eventsLost + 1) } }

/-- The hose `h` replaced. -/
def withHose (h : HoseId) (x : Hose) (s : State) : State := { s with hoses := s.hoses.set h x }

/-- The tag link `h` replaced. -/
def withTag (h : HoseId) (x : TagLink) (s : State) : State := { s with tags := s.tags.set h x }

/-- The meter unit `h` replaced. -/
def withMeter (h : HoseId) (x : Meter) (s : State) : State := { s with meters := s.meters.set h x }

/-- The port `p` replaced. -/
def withPort (p : PortId) (x : Port) (s : State) : State :=
  match p with
  | .a => { s with portA := x }
  | .b => { s with portB := x }

/-- The tank `k` replaced. -/
def withTank (k : TankId) (x : Tank) (s : State) : State := { s with tanks := s.tanks.set k x }

/-- The events of one hose reach that hose, its tag link, the console port and the bay alert, and nothing
else. -/
def onlyHose (h : HoseId) (s t : State) : Prop :=
  (∀ k, k ≠ h → t.hose k = s.hose k ∧ t.tag k = s.tag k) ∧
    { t with hoses := s.hoses, tags := s.tags, console := s.console, alert := s.alert } = s

/-- R3: the outputs of a hose. -/
def outputsAre (x : Hose) (pump main slow : Bool) : Prop :=
  x.pump = pump ∧ x.mainValve = main ∧ x.slowValve = slow

/-- R58: a lamp command is requested of the tag link of a hose. -/
def lampAsked (h : HoseId) (l : Lamp) (t : State) : Prop :=
  (t.tag h).pendingLamp = some l ∧ (t.tag h).lastLamp = l

/-- R4: a hose enters a state, and that is the one event posted. -/
def enters (h : HoseId) (new : HoseState) (s t : State) : Prop :=
  (t.hose h).state = new ∧
    t.console = (posted h.val (.hoseState new (s.hose h).state) s).console

/-- R27: after a move of a hose the alert is as it was, but that TAG_LOST has ended if no hose is in PAUSED any
longer. -/
def alertFollows (s t : State) : Prop :=
  (s.alert = .tagLost → (∀ h, (t.hose h).state ≠ .paused) → t.alert = .none) ∧
    (s.alert ≠ .tagLost ∨ (∃ h, (t.hose h).state = .paused) → t.alert = s.alert)

/-- R16: entry to CLOSING with an end reason; TAG_LOST ends with the last hose in PAUSED (R27). -/
def closes (h : HoseId) (r : EndReason) (s t : State) : Prop :=
  enters h .closing s t ∧ outputsAre (t.hose h) false false false ∧ lampAsked h .amber t ∧
    (t.tag h).mode = .quiet ∧
    (t.hose h).dispense = (s.hose h).dispense.map (fun d => { d with endReason := some r }) ∧
    (t.hose h).timers =
      { (s.hose h).timers with
        noFlow := none, duration := none, tagReturn := none
        afterFlow := some ((s.hoseCfg h).afterFlow * 100) } ∧
    (t.hose h).last = (s.hose h).last ∧ (t.hose h).requested = (s.hose h).requested ∧
    (t.hose h).pendingIssue = (s.hose h).pendingIssue ∧ alertFollows s t ∧ onlyHose h s t

end Sys2Proof.Machine

open Sys2Proof Sys2Proof.Machine

/-! ### The queue, the reset and the step -/

/-- The step carries out the command at the front of the queue on the state with the rest of the queue; on
an empty queue it idles (log 1). -/
def Obligations.StepRunsTheFrontCommand : Prop :=
  (∀ (c : Instr) (rest : List Instr) (s : State),
      step { s with pending := c :: rest } = exec c { s with pending := rest }) ∧
    ∀ s : State, s.pending = [] → step s = .next s

/-- Every command answers next on every state, and leaves the queue as it is. -/
def Obligations.CommandsAnswerNextAndKeepTheQueue : Prop :=
  ∀ (c : Instr) (s : State), ∃ t, exec c s = .next t ∧ t.pending = s.pending

/-- The station right after power-on reset, item by item: the values of the state tables and the defaults of the
configuration store. The phase of the meter inputs and the level of clear-to-send are log 8. Log 10 gives what no
table gives: of a hose the out-of-service mark, the ISSUE as built, the sub-phase of HOLDING and the ports waited on
and reserved; the flow window timing; of a tag link the last lamp command, data not held low and no discarded message
to come; of a port no gap waited for; and the bytes last shifted out on MISO. The queue is the model's own (log 1). -/
def Obligations.ResetHoldsThePowerOnValues : Prop :=
  let s := State.reset
  let zero : Counter := ⟨0, false⟩
  s.started = false ∧ s.tick = 0 ∧ s.sigma = 0 ∧ s.vehicles = [] ∧ s.holds = [] ∧ s.holdCounter = 0 ∧
  s.tableFullTick = none ∧ s.alert = .none ∧ s.pending = [] ∧ s.holdExpiries = zero ∧
  (∀ h : HoseId,
    s.hose h =
      { state := .disabled, pump := false, mainValve := false, slowValve := false, lifted := false
        switchKnown := false, requested := none, dispense := none, outOfService := false, last := none
        pendingIssue := ⟨false, false⟩, issue := none, lateVolume := 0, leakReported := false
        phase := .none, waitPorts := ⟨false, false⟩, reserved := ⟨false, false⟩
        timers := ⟨none, none, none, none, none, none, none, none⟩ } ∧
    s.meter h =
      { phase := .p0, net := 0, aRise := 0, phaseError := false, saturated := false, errorRun := 0
        c := 0, g := 0, prevG := 0, reverseTotal := 0, acc := 0, s := 0, t10 := none, held := none
        invalidRun := 0, fallback := false, faultReported := false, reverseReported := false
        latePulses := 0, carried := 0, lateActive := false, windowTimer := none } ∧
    s.tag h =
      { line := .held, dataLow := false, mode := .quiet, message := [], leftover := .none
        buffer := none, tracker := [], accepted := none, hoursAdopted := false, watchTimer := none
        gapTimer := none, inFlight := none, lampBits := [], lampTimer := none, pendingLamp := none
        lastLamp := .off } ∧
    s.hoseCounters.get h = ⟨zero, zero, zero, zero, zero⟩ ∧
    s.hoseCfg h = ⟨true, 0, 500, 10, 90, 20, 10000, 100, 300, 600, 0, 0, 0, 0⟩) ∧
  (∀ k : TankId,
    s.tank k =
      { period := 0, opening := 0, openingPending := true, issueMap := [], deliveryMap := []
        gauge := none, variance := none, varianceFlag := false, stage := .cutoff } ∧
    s.tankCfg k = ⟨10000000, 3000000, 1500000, 300000, 100000, 100000, 20000, 0⟩) ∧
  (∀ c : ClassId,
    (s.classCounters.get c).buckets.toList = List.replicate 6 zero ∧
    (s.classCounters.get c).volume = zero ∧
    (s.classCounters.get c).refusals.toList = List.replicate 10 zero ∧
    s.classCfg c = ⟨100000, 300000, 2, 6000000, 5000, 900, 100, 10000⟩) ∧
  s.cfg.station = ⟨none, 400, 60, 2000, 2000, 50, ⟨true, false⟩, ⟨false, false⟩, 30, 500⟩ ∧
  (∀ p : PortId, s.port p =
    { state := .off, cause := none, silenceTimer := none, recoveryTimer := none, stallTimer := none
      urgent := [], routine := [], sending := none, failCount := 0, fifo := [], partFrame := []
      messageLost := false, cts := false, rts := false, resync := false
      counters := ⟨zero, zero, zero, zero, zero, zero, zero, zero⟩ }) ∧
  s.walker = { position := none, stepCount := 0, nextTank := 0, fast := none, stepTimer := none } ∧
  s.console =
    { phase := .command, command := none, result := [], readPos := 0, codeRead := true, events := []
      eventsLost := 0, intLine := false, misoStatus := 0, misoData := 0 }

/-- A power-on reset brings back the values of reset whatever the state; the phases of the meter inputs and
clear-to-send, which are levels of inputs, and the waiting commands stay (log 8, the model's choice). -/
def Obligations.PowerOnResetRestoresTheResetState : Prop :=
  ∀ s : State, ∃ t, exec .powerOnReset s = .next t ∧
    { t with
      meters := State.reset.meters, portB := { t.portB with cts := false }, pending := [] }
        = State.reset ∧
    (∀ h : HoseId, t.meter h = { State.reset.meter h with phase := (s.meter h).phase }) ∧
    t.portB.cts = s.portB.cts ∧ t.pending = s.pending

/-! ### Configuration (Chapter 11) -/

namespace Sys2Proof.Machine

/-- An item of a Set command: its selector (R188), the values it takes, and the change of the store. -/
structure ItemRow (α : Type) where
  selector : Nat
  takes : Word → Bool
  store : Word → α → α

/-- An unsigned range. -/
def inRange (lo hi : Nat) (w : Word) : Bool := decide (lo ≤ w.toNat) && decide (w.toNat ≤ hi)

/-- An unsigned range, or 0. -/
def zeroOrIn (lo hi : Nat) (w : Word) : Bool := decide (w.toNat = 0) || inRange lo hi w

/-- A signed range. -/
def inSigned (lo hi : Int) (w : Word) : Bool := decide (lo ≤ w.toInt) && decide (w.toInt ≤ hi)

/-- The station's items in the order of R188; volumes are held in cL. -/
def stationItems : List (ItemRow StationCfg) :=
  [⟨1, inRange 1 16, fun w c => { c with number := some w.toNat }⟩,
   ⟨2, inRange 200 2000, fun w c => { c with settleWindow := w.toNat }⟩,
   ⟨3, inRange 10 300, fun w c => { c with tagReturnLimit := w.toNat }⟩,
   ⟨4, inRange 200 4000, fun w c => { c with toneHz := w.toNat }⟩,
   ⟨5, inRange 1 100, fun w c => { c with minDispense := w.toNat * 100 }⟩,
   ⟨6, inRange 0 100, fun w c => { c with isolatedFraction := w.toNat }⟩,
   ⟨7, inRange 0 1, fun w c => { c with portA := ⟨decide (w.toNat = 1), c.portA.relay⟩ }⟩,
   ⟨8, inRange 0 1, fun w c => { c with portA := ⟨c.portA.configured, decide (w.toNat = 1)⟩ }⟩,
   ⟨9, inRange 0 1, fun w c => { c with portB := ⟨decide (w.toNat = 1), c.portB.relay⟩ }⟩,
   ⟨10, inRange 0 1, fun w c => { c with portB := ⟨c.portB.configured, decide (w.toNat = 1)⟩ }⟩,
   ⟨11, inRange 5 300, fun w c => { c with silenceLimit := w.toNat }⟩,
   ⟨12, inRange 100 2000, fun w c => { c with refreshInterval := w.toNat }⟩]

/-- A class's items in the order of R188; volumes are held in cL, hours in tenths. -/
def classItems : List (ItemRow ClassCfg) :=
  [⟨1, inRange 1 5000, fun w c => { c with maxPreset := w.toNat * 100 }⟩,
   ⟨2, inRange 0 100000, fun w c => { c with allowance := w.toNat * 100 }⟩,
   ⟨3, inRange 0 7, fun w c => { c with priority := w.toNat }⟩,
   ⟨4, zeroOrIn 100 5000000, fun w c => { c with litresInterval := w.toNat * 100 }⟩,
   ⟨5, zeroOrIn 10 50000, fun w c => { c with hoursInterval := w.toNat * 10 }⟩,
   ⟨6, inRange 500 999, fun w c => { c with warn := w.toNat }⟩,
   ⟨7, inRange 0 500, fun w c => { c with grace := w.toNat }⟩,
   ⟨8, inRange 0 500, fun w c => { c with limp := w.toNat * 100 }⟩]

/-- A hose's items in the order of R188; the slow-down distance is held in cL. -/
def hoseItems : List (ItemRow HoseCfg) :=
  [⟨1, inRange 0 1, fun w c => { c with fitted := decide (w.toNat = 1) }⟩,
   ⟨2, inRange 0 3, fun w c => { c with tank := Fin.ofNat 4 w.toNat }⟩,
   ⟨3, inRange 0 100, fun w c => { c with slowDown := w.toNat * 100 }⟩,
   ⟨4, inRange 0 500, fun w c => { c with closeAhead := w.toNat }⟩,
   ⟨5, inRange 10 600, fun w c => { c with noFlowLimit := w.toNat }⟩,
   ⟨6, inRange 5 50, fun w c => { c with afterFlow := w.toNat }⟩,
   ⟨7, inRange 1000 99999, fun w c => { c with kh := w.toNat }⟩,
   ⟨8, inRange 1 2000, fun w c => { c with b1 := w.toNat }⟩,
   ⟨9, inRange 1 2000, fun w c => { c with b2 := w.toNat }⟩,
   ⟨10, inRange 1 2000, fun w c => { c with b3 := w.toNat }⟩,
   ⟨11, inSigned (-200) 200, fun w c => { c with c0 := w.toInt }⟩,
   ⟨12, inSigned (-200) 200, fun w c => { c with c1 := w.toInt }⟩,
   ⟨13, inSigned (-200) 200, fun w c => { c with c2 := w.toInt }⟩,
   ⟨14, inSigned (-200) 200, fun w c => { c with c3 := w.toInt }⟩]

/-- A tank's items in the order of R188; volumes are held in cL. -/
def tankItems : List (ItemRow TankCfg) :=
  [⟨1, inRange 1000 2000000, fun w c => { c with capacity := w.toNat * 100 }⟩,
   ⟨2, inRange 0 2000000, fun w c => { c with reserve := w.toNat * 100 }⟩,
   ⟨3, inRange 0 2000000, fun w c => { c with critical := w.toNat * 100 }⟩,
   ⟨4, inRange 0 2000000, fun w c => { c with cutoff := w.toNat * 100 }⟩,
   ⟨5, inRange 0 100000, fun w c => { c with hysteresis := w.toNat * 100 }⟩,
   ⟨6, inRange 0 100000, fun w c => { c with varianceLimit := w.toNat * 100 }⟩,
   ⟨7, inRange 0 2000, fun w c => { c with criticalCap := w.toNat * 100 }⟩,
   ⟨8, inRange 0 2000, fun w c => { c with alpha := w.toNat }⟩]

/-- What a Set command does: in CONFIG an item of the table with a value it takes is stored in the named
object alone and completes OK; any other item or value is BAD_PARAMETER; in RUNNING it is WRONG_STATE. -/
def setsItems {α : Type} (rows : List (ItemRow α)) (command : Byte → Word → Instr)
    (change : (α → α) → Cfg → Cfg) : Prop :=
  ∀ (item : Byte) (w : Word) (s : State),
    (s.started = true → exec (command item w) s = .next (completed 0x04 [] s)) ∧
    (s.started = false →
      (∀ row ∈ rows, item.toNat = row.selector → row.takes w = true →
        exec (command item w) s
          = .next (completed 0x01 [] { s with cfg := change (row.store w) s.cfg })) ∧
      ((∀ row ∈ rows, item.toNat = row.selector → row.takes w = false) →
        exec (command item w) s = .next (completed 0x03 [] s)))

/-- R179: the thresholds of a fitted hose are in order. -/
def hoseInOrder (c : HoseCfg) : Prop := c.fitted = true → c.b1 < c.b2 ∧ c.b2 < c.b3

/-- R179: the levels of a tank are in order. -/
def tankInOrder (c : TankCfg) : Prop :=
  c.cutoff < c.critical ∧ c.critical < c.reserve ∧ c.reserve ≤ c.capacity

end Sys2Proof.Machine

/-- Set Station and Set Class. -/
def Obligations.SetStationAndSetClassStoreTheirItems : Prop :=
  setsItems stationItems (fun item w => .setStation item w)
    (fun f c => { c with station := f c.station }) ∧
  (∀ c : ClassId, setsItems classItems (fun item w => .setClass (BitVec.ofNat 8 c.val) item w)
    (fun f x => { x with classes := x.classes.set c (f (x.classes.get c)) })) ∧
  ∀ (index item : Byte) (w : Word) (s : State), s.started = false → 7 < index.toNat →
    exec (.setClass index item w) s = .next (completed 0x03 [] s)

/-- Set Hose and Set Tank. -/
def Obligations.SetHoseAndSetTankStoreTheirItems : Prop :=
  (∀ h : HoseId, setsItems hoseItems (fun item w => .setHose (BitVec.ofNat 8 h.val) item w)
    (fun f x => { x with hoses := x.hoses.set h (f (x.hoses.get h)) })) ∧
  (∀ k : TankId, setsItems tankItems (fun item w => .setTank (BitVec.ofNat 8 k.val) item w)
    (fun f x => { x with tanks := x.tanks.set k (f (x.tanks.get k)) })) ∧
  ∀ (index item : Byte) (w : Word) (s : State), s.started = false → 3 < index.toNat →
    exec (.setHose index item w) s = .next (completed 0x03 [] s) ∧
    exec (.setTank index item w) s = .next (completed 0x03 [] s)

/-- Start in CONFIG: the tests of the store in order, the first that fails ending the command with the object and the
item at fault and nothing else changed; with no test failed the station enters RUNNING. -/
def Obligations.StartReportsTheFirstFailedTest : Prop :=
  ∀ s : State, s.started = false →
    (s.cfg.station.number = none → exec .start s = .next (completed 0x04 [] s)) ∧
    (s.cfg.station.number ≠ none →
      (∀ h : HoseId, (∀ k, k < h → hoseInOrder (s.hoseCfg k)) → ¬hoseInOrder (s.hoseCfg h) →
        exec .start s = .next (completed 0x03
          [1, BitVec.ofNat 8 h.val, if (s.hoseCfg h).b1 < (s.hoseCfg h).b2 then 9 else 8] s)) ∧
      ((∀ h : HoseId, hoseInOrder (s.hoseCfg h)) →
        (∀ k : TankId, (∀ j, j < k → tankInOrder (s.tankCfg j)) → ¬tankInOrder (s.tankCfg k) →
          exec .start s = .next (completed 0x03
            [2, BitVec.ofNat 8 k.val,
              if (s.tankCfg k).critical < (s.tankCfg k).reserve
                  ∧ (s.tankCfg k).reserve ≤ (s.tankCfg k).capacity then 3 else 2] s)) ∧
        ((∀ k : TankId, tankInOrder (s.tankCfg k)) →
          ∃ t, exec .start s = .next t ∧ t.started = true ∧ t.cfg = s.cfg ∧
            t.console.result = [0x01])))

namespace Sys2Proof.Machine

/-- R99: the stage of a tank from its held stage and its effective stock: the band below the held bound, and the
best stage above it that is reached with the hysteresis. -/
def stageFor (c : TankCfg) (held new : Stage) (e : Option Int) : Prop :=
  match e with
  | none => new = .cutoff
  | some x =>
    let below (b : Nat) : Prop := x < b
    let reached (b : Nat) : Prop := ((b + c.hysteresis : Nat) : Int) ≤ x
    let falls := (held = .normal ∧ below c.reserve) ∨ (held = .reserve ∧ below c.critical) ∨
      (held = .critical ∧ below c.cutoff)
    (falls →
      (¬below c.reserve → new = .normal) ∧
      (below c.reserve → ¬below c.critical → new = .reserve) ∧
      (below c.reserve → below c.critical → ¬below c.cutoff → new = .critical) ∧
      (below c.reserve → below c.critical → below c.cutoff → new = .cutoff)) ∧
    (¬falls →
      (held = .normal ∨ reached c.reserve → new = .normal) ∧
      (held ≠ .normal → ¬reached c.reserve →
        (held = .reserve ∨ reached c.critical → new = .reserve) ∧
        (held ≠ .reserve → ¬reached c.critical →
          (held = .critical ∨ reached c.cutoff → new = .critical) ∧
          (held = .cutoff → ¬reached c.cutoff → new = .cutoff))))

/-- R99, R180: what a tank that has derived its stage reports: a change of it. -/
def stageReport (s t : State) (k : TankId) : List (Nat × EventDetail) :=
  if (t.tank k).stage = (s.tank k).stage then []
  else [(k.val, .stageChange (t.tank k).stage (s.tank k).stage (effectiveStock s k))]

/-- R180, step 3: what a fitted hose reports at Start. -/
def hoseReport (s t : State) (h : HoseId) : List (Nat × EventDetail) :=
  if (s.hoseCfg h).fitted then [(h.val, .hoseState (t.hose h).state .disabled)] else []

/-- R180, step 4: what a configured port reports at Start. -/
def portReport (s : State) (p : PortId) : List (Nat × EventDetail) :=
  if (s.portCfg p).configured then [(if p = .a then 0 else 1, .lineState .active .off none)] else []

/-- R180: the events of Start in their order: the stages, the hoses and the ports, each in ascending number. -/
def startReports (s t : State) : List (Nat × EventDetail) :=
  [0, 1, 2, 3].flatMap (stageReport s t) ++ [0, 1, 2, 3].flatMap (hoseReport s t)
    ++ [PortId.a, PortId.b].flatMap (portReport s)

/-- Events posted one after another. -/
def allPosted (l : List (Nat × EventDetail)) (s : State) : State :=
  l.foldl (fun a e => posted e.1 e.2 a) s

end Sys2Proof.Machine

/-- Start with its tests passed brings the station up; in RUNNING it is refused. The hoses are in DISABLED, as they
are in CONFIG, and the ports hold nothing. Each tank derives its stage, and the event queue takes the changes of
stage, then the HOSE_STATE of the fitted hoses and then the LINE_STATE of the configured ports, at tick 0, and the
command completes; the stages stand in ascending tank number by the model's choice (log 12). -/
def Obligations.StartBringsTheStationUp : Prop :=
  (∀ s : State, s.started = true → exec .start s = .next (completed 0x04 [] s)) ∧
  ∀ s : State, s.started = false → s.cfg.station.number ≠ none →
    (∀ h : HoseId, hoseInOrder (s.hoseCfg h) ∧ (s.hose h).state = .disabled ∧
      (s.hose h).dispense = none ∧ (s.hose h).pendingIssue = ⟨false, false⟩) →
    (∀ k : TankId, tankInOrder (s.tankCfg k)) →
    (∀ p : PortId, (s.port p).state = .off ∧ (s.port p).urgent = [] ∧ (s.port p).routine = []) →
    ∃ t, exec .start s = .next t ∧ t.started = true ∧ t.tick = 0 ∧ t.cfg = s.cfg ∧
      t.sigma = s.sigma ∧ t.vehicles = s.vehicles ∧ t.holds = s.holds ∧
      t.holdCounter = s.holdCounter ∧ t.classCounters = s.classCounters ∧
      t.hoseCounters = s.hoseCounters ∧ t.pending = s.pending ∧
      (∀ h : HoseId,
        ((s.hoseCfg h).fitted = true → (s.hose h).lifted = true →
          (t.hose h).state = .lifted ∧ (t.hose h).timers.lift = some 120000 ∧
          lampAsked h .amber t ∧ (t.tag h).mode = .seek) ∧
        ((s.hoseCfg h).fitted = true → (s.hose h).lifted = false →
          (t.hose h).state = .idle ∧ lampAsked h .off t ∧ (t.tag h).mode = .quiet) ∧
        ((s.hoseCfg h).fitted = true → (t.meter h).windowTimer = some 250 ∧ (t.meter h).net = 0) ∧
        ((s.hoseCfg h).fitted = false → t.hose h = s.hose h ∧ t.tag h = s.tag h)) ∧
      (∀ p : PortId,
        ((s.portCfg p).configured = true →
          (t.port p).state = .active ∧
          (t.port p).silenceTimer = some (s.cfg.station.silenceLimit * 1000) ∧
          (t.port p).urgent = [] ∧
          (t.port p).routine.map QueueEntry.frame =
            [⟨1, s.cfg.station.number.getD 0, false, 2,
              [BitVec.ofNat 8 (s.sigma / 256), BitVec.ofNat 8 s.sigma]⟩]) ∧
        ((s.portCfg p).configured = false → (t.port p).state = .off ∧ (t.port p).routine = [])) ∧
      (∀ k : TankId, { t.tank k with stage := (s.tank k).stage } = s.tank k ∧
        stageFor (s.tankCfg k) (s.tank k).stage (t.tank k).stage (effectiveStock s k)) ∧
      t.walker = ⟨none, 0, 0, some ⟨0, false⟩, some (s.cfg.station.refreshInterval / 4)⟩ ∧
      t.console = (completed 0x01 [] (allPosted (startReports s t) { s with tick := 0 })).console ∧
      t.console.phase = .result ∧ t.console.result = [0x01]

/-! ### Restart (R181, R182) -/

namespace Sys2Proof.Machine

/-- The states in which a dispense is open. -/
abbrev dispensesIn (x : HoseState) : Prop :=
  x = .holding ∨ x = .running ∨ x = .slowing ∨ x = .paused ∨ x = .closing

/-- R182, R181: what Restart keeps. -/
def keptAcrossRestart (s t : State) : Prop :=
  t.started = true ∧ t.cfg = s.cfg ∧ t.tick = s.tick ∧ t.sigma = s.sigma ∧
    t.holdCounter = s.holdCounter ∧ t.pending = s.pending

/-- R26: a dispense ended by Restart: nothing open, the outputs off, and a record with end reason RESTART and the
meter's volumes, none from HOLDING; the hose stays in ENDED while its nozzle is lifted. -/
def endedByRestart (d : Dispense) (m : Meter) (x y : Hose) : Prop :=
  y.dispense = none ∧ outputsAre y false false false ∧ y.requested = none ∧
    (y.state = .ended ∨ y.state = .idle ∨ y.state = .disabled) ∧
    (x.lifted = true → y.state = .ended) ∧
    ∃ r, y.last = some r ∧ r.endReason = .restart ∧ r.vehicle = d.vehicle ∧ r.cls = d.cls ∧
      r.granted = d.granted ∧ r.gross = (if x.state = .holding then 0 else m.g) ∧
      r.standard = (if x.state = .holding then 0 else m.s)

/-- R128, R152: the ROLLCALL that a station queues for itself. -/
def rollcallEntry (s : State) : QueueEntry :=
  ⟨⟨1, s.ownNumber, false, 2, [BitVec.ofNat 8 (s.sigma / 256), BitVec.ofNat 8 s.sigma]⟩, .ordinary, none⟩

/-- R26: Restart finds a hose in ENDED, or in REFUSED with an ISSUE that it still owes. -/
abbrev requeuesIssue (x : Hose) : Prop :=
  x.state = .ended ∨ (x.state = .refused ∧ x.pendingIssue ≠ ⟨false, false⟩)

/-- R26: the ISSUEs that the hoses `hs` queue again, in their order. -/
def issuesAgain (hs : List HoseId) (s : State) : List Frame :=
  hs.filterMap fun h =>
    if requeuesIssue (s.hose h) then (s.hose h).issue else none

/-- R26, R19, R22: a hose that Restart finds in ENDED or REFUSED owes no ISSUE afterwards, keeps its last record,
and leaves for IDLE, or from ENDED with the out-of-service mark for DISABLED, if its nozzle is hung up. -/
def leftByRestart (x y : Hose) : Prop :=
  y.pendingIssue = ⟨false, false⟩ ∧ y.last = x.last ∧ y.dispense = x.dispense ∧
    y.requested = x.requested ∧ y.outOfService = x.outOfService ∧ y.lifted = x.lifted ∧
    y.timers = ⟨none, none, none, none, none, none, none, none⟩ ∧
    (x.lifted = true → y.state = x.state) ∧
    (x.lifted = false →
      y.state = if x.state = .ended ∧ x.outOfService = true then .disabled else .idle)

end Sys2Proof.Machine

/-- Restart: refused in CONFIG; in RUNNING it ends every dispense, empties the ports, the tag links, the
event queue's old entries and the station's counts, queues the ISSUEs of the dispenses that it ends, those owed
again and a ROLLCALL, and starts a fast pass. That the dispenses it ends leave the class counters at 0 is the
model's reading of R175 beside R181 (log 39), and that the out-of-service mark stays after a hose has left ENDED its
reading of R19 (log 30). -/
def Obligations.RestartEndsDispensesAndClearsTheBlocks : Prop :=
  ∀ s : State,
    (s.started = false → exec .restart s = .next (completed 0x04 [] s)) ∧
    (s.started = true → ∃ t, exec .restart s = .next t ∧ keptAcrossRestart s t ∧
      (∀ (h : HoseId) (d : Dispense), dispensesIn (s.hose h).state → (s.hose h).dispense = some d →
        endedByRestart d (s.meter h) (s.hose h) (t.hose h)) ∧
      (∀ h : HoseId, (s.hose h).state = .ended ∨ (s.hose h).state = .refused →
        leftByRestart (s.hose h) (t.hose h)) ∧
      (∀ h : HoseId, (t.hose h).lateVolume = 0 ∧ (t.hose h).leakReported = false) ∧
      (∀ h : HoseId, (s.hose h).state = .lifted →
        (t.hose h).state = .lifted ∧
        (t.hose h).timers = ⟨some 120000, none, none, none, none, none, none, none⟩) ∧
      (∀ h : HoseId, (s.hose h).state = .disabled ∨ (s.hose h).state = .idle →
        (t.hose h).state = (s.hose h).state ∧
        (t.hose h).timers = ⟨none, none, none, none, none, none, none, none⟩) ∧
      (∀ h : HoseId, (s.hoseCfg h).fitted = true →
        (t.tag h).message = [] ∧ (t.tag h).buffer = none ∧ (t.tag h).tracker = [] ∧
        (t.tag h).accepted = none ∧ (t.tag h).inFlight = none ∧ (t.tag h).lampBits = [] ∧ (t.meter h).c = 0 ∧
        (t.meter h).net = 0 ∧ (t.meter h).held = (s.meter h).held) ∧
      (∀ p : PortId, (s.portCfg p).configured = true →
        (t.port p).state = (if (s.port p).state = .fault then .active else (s.port p).state) ∧
        (t.port p).cause = none ∧ (t.port p).fifo = [] ∧ (t.port p).urgent = [] ∧
        (t.port p).sending = none ∧ (t.port p).failCount = 0 ∧ (t.port p).messageLost = false ∧
        (t.port p).counters = PortCounters.zero ∧
        ∃ ended : List Frame, (∀ f ∈ ended, f.kind = 5 ∧ f.origin = s.ownNumber ∧ f.relayed = false) ∧
          ended.length = ([0, 1, 2, 3].filter fun h : HoseId =>
            decide (dispensesIn (s.hose h).state ∧ (s.hose h).dispense.isSome = true)).length ∧
          (t.port p).routine =
            (ended ++ issuesAgain [0, 1, 2, 3] s).map (⟨·, .ordinary, none⟩) ++ [rollcallEntry s]) ∧
      t.classCounters = Oct.all ClassCounters.zero ∧
      t.tableFullTick = none ∧ t.alert = .none ∧ t.holdExpiries = ⟨0, false⟩ ∧
      t.hoseCounters = Quad.all ⟨⟨0, false⟩, ⟨0, false⟩, ⟨0, false⟩, ⟨0, false⟩, ⟨0, false⟩⟩ ∧
      t.walker = ⟨none, 0, 0, some ⟨0, false⟩, some (s.cfg.station.refreshInterval / 4)⟩ ∧
      t.console.phase = .result ∧ t.console.result = [0x01] ∧ t.console.eventsLost = 0)

/-! ### Vehicles (R66, R70, R86) and the shift (R72) -/

namespace Sys2Proof.Machine

/-- Whether a vehicle number names a vehicle. -/
def vehicleNumber (v : Half) : Prop := v.toNat ≠ 0 ∧ v.toNat ≠ 65535

/-- R70: a hose of the station has an open dispense for a vehicle. -/
def dispensesFor (s : State) (v : Nat) : Prop :=
  ∃ (h : HoseId) (d : Dispense),
    dispensesIn (s.hose h).state ∧ (s.hose h).dispense = some d ∧ d.vehicle = v

/-- The records of the other vehicles are as they were. -/
def otherVehiclesKept (v : Nat) (s t : State) : Prop :=
  ∀ u, u ≠ v → findVehicle u t = findVehicle u s

/-- R82: the status is the one that the record's figures give. -/
def statusDerived (s : State) (x : VehicleRecord) : Prop :=
  x.status = statusOf (s.classCfg x.cls) (perMille (s.classCfg x.cls) x)

/-- R82: a record left as `x` whose status was `prev` reports a change of its status. -/
def statusTold (prev : ServiceStatus) (x : VehicleRecord) (s : State) : State :=
  if x.status = prev then s
  else posted x.vehicle (.serviceStatus x.status prev (perMille (s.classCfg x.cls) x)) s

/-- R65, R67, R68: the record that a source meets for a vehicle, the class it carries settling an unsettled one,
or the record that it creates. -/
def recordMet (o : Origin) (v : Nat) (cls : Option ClassId) (s : State) (r : VehicleRecord) : Prop :=
  (∃ y, findVehicle v s = some y ∧
    (cls = none ∨ y.settled = true → r = y) ∧
    (∀ c, cls = some c → y.settled = false →
      r = { y with cls := c, settled := true, touched := s.tick })) ∨
  (findVehicle v s = none ∧ s.vehicles.length < 320 ∧
    r = ⟨v, cls.getD 0, cls.isSome, 0, [], 0, none, [], none, none, .ok, o, s.tick⟩)

/-- R72, R86, R94 to R96: a configured port that is not in FAULT. -/
def takesNotices (s : State) (p : PortId) : Prop :=
  (s.portCfg p).configured = true ∧ (s.port p).state ≠ .fault

/-- A port is as it was but for its two queues and what follows them: request-to-send and the stall timer
of port B (R140, R141). -/
def samePortBut (s t : State) (p : PortId) : Prop :=
  { t.port p with
    urgent := (s.port p).urgent, routine := (s.port p).routine, rts := (s.port p).rts
    stallTimer := (s.port p).stallTimer } = s.port p

/-- R72, R86, R157: frames stand as ordinary entries at the end of the routine queue of every port that
takes notices, and the other ports are as they were. -/
def queuedOnRoutine (fs : List Frame) (s t : State) : Prop :=
  ∀ p : PortId,
    (takesNotices s p →
      (t.port p).routine = (s.port p).routine ++ fs.map (⟨·, .ordinary, none⟩) ∧
      (t.port p).urgent = (s.port p).urgent ∧ samePortBut s t p) ∧
    (¬takesNotices s p → t.port p = s.port p)

/-- R85: a pending value that latest hours has reached is dropped when latest hours rises. -/
def pendingAfter (r : VehicleRecord) (latest : Option Nat) : Option Nat :=
  if latest = r.latestHours then r.pendingHours
  else r.pendingHours.filter fun q => decide (latest.getD 0 < q)

end Sys2Proof.Machine

/-- Enrol Vehicle and Retire Vehicle, in every case of their rules: the record that Enrol Vehicle meets or creates
keeps all but its status, which is derived and, if it changes, reported. -/
def Obligations.EnrolAndRetireChangeOneRecord : Prop :=
  ∀ (v : Half) (cls : Byte) (s : State),
    (s.started = false →
      exec (.enrolVehicle v cls) s = .next (completed 0x04 [] s) ∧
      exec (.retireVehicle v) s = .next (completed 0x04 [] s)) ∧
    (s.started = true → (¬vehicleNumber v ∨ 7 < cls.toNat) →
      exec (.enrolVehicle v cls) s = .next (completed 0x03 [] s)) ∧
    (s.started = true → vehicleNumber v → cls.toNat ≤ 7 →
      (findVehicle v.toNat s = none → 320 ≤ s.vehicles.length →
        exec (.enrolVehicle v cls) s = .next (completed 0x07 [] s)) ∧
      (∀ r c, c.val = cls.toNat → recordMet .enrol v.toNat (some c) s r →
        ∃ u x, exec (.enrolVehicle v cls) s = .next (completed 0x01 [BitVec.ofNat 8 r.cls.val] u) ∧
          findVehicle v.toNat u = some x ∧ statusDerived s x ∧
          { x with status := r.status, touched := r.touched } = r ∧
          x.touched = (if x.status = r.status then r.touched else s.tick) ∧
          u.console = (statusTold r.status x s).console ∧
          u.vehicles.length = s.vehicles.length + (if findVehicle v.toNat s = none then 1 else 0) ∧
          otherVehiclesKept v.toNat s u ∧
          { u with vehicles := s.vehicles, console := s.console } = s)) ∧
    (s.started = true → findVehicle v.toNat s = none →
      exec (.retireVehicle v) s = .next (completed 0x06 [] s)) ∧
    (s.started = true → findVehicle v.toNat s ≠ none → dispensesFor s v.toNat →
      exec (.retireVehicle v) s = .next (completed 0x08 [] s)) ∧
    (s.started = true → findVehicle v.toNat s ≠ none → ¬dispensesFor s v.toNat →
      ∃ u, exec (.retireVehicle v) s = .next (completed 0x01 [] u) ∧
        findVehicle v.toNat u = none ∧ otherVehiclesKept v.toNat s u ∧
        { u with vehicles := s.vehicles } = s)

/-- Open Shift, in every case of its rule. A routine entry that a hose waits for with an ISSUE is not free
(log 13). -/
def Obligations.OpenShiftRaisesTheShiftAndQueuesIt : Prop :=
  ∀ s : State,
    (s.started = false → exec .openShift s = .next (completed 0x04 [] s)) ∧
    (s.started = true → s.sigma = 65535 → exec .openShift s = .next (completed 0x04 [] s)) ∧
    (s.started = true → s.sigma ≠ 65535 → (∃ p, takesNotices s p ∧ freeRoutine s p = 0) →
      exec .openShift s = .next (completed 0x05 [] s)) ∧
    (s.started = true → s.sigma ≠ 65535 → (∀ p, takesNotices s p → 0 < freeRoutine s p) →
      let n := s.sigma + 1
      let bytes : List Byte := [BitVec.ofNat 8 (n / 256), BitVec.ofNat 8 n]
      ∃ u, exec .openShift s = .next (completed 0x01 bytes u) ∧ u.sigma = n ∧
        u.console = (posted 0 (.shiftChange n s.sigma 0) s).console ∧
        queuedOnRoutine [⟨1, s.ownNumber, false, 3, bytes⟩] s u ∧
        { u with sigma := s.sigma, console := s.console, portA := s.portA, portB := s.portB } = s)

/-- Record Service, in every case of its rule. A routine entry that a hose waits for with an ISSUE is not free
(log 13). -/
def Obligations.RecordServiceStartsAGeneration : Prop :=
  ∀ (v : Half) (presence : Byte) (hours : Word) (s : State),
    let given : Option Nat := if presence.getLsbD 1 then some hours.toNat else none
    let command := Instr.recordService v presence hours
    (s.started = false → exec command s = .next (completed 0x04 [] s)) ∧
    (s.started = true → (¬vehicleNumber v ∨ ∃ x, given = some x ∧ 99999999 < x) →
      exec command s = .next (completed 0x03 [] s)) ∧
    (s.started = true → vehicleNumber v → (∀ x, given = some x → x ≤ 99999999) →
      (findVehicle v.toNat s = none → exec command s = .next (completed 0x06 [] s)) ∧
      ∀ r, findVehicle v.toNat s = some r →
        (r.generation = 65535 → exec command s = .next (completed 0x04 [] s)) ∧
        (r.generation ≠ 65535 → (∃ p, takesNotices s p ∧ freeRoutine s p = 0) →
          exec command s = .next (completed 0x05 [] s)) ∧
        (r.generation ≠ 65535 → (∀ p, takesNotices s p → 0 < freeRoutine s p) →
          ∃ u x, exec command s = .next (completed 0x01
              [BitVec.ofNat 8 ((r.generation + 1) / 256), BitVec.ofNat 8 (r.generation + 1)] u) ∧
            findVehicle v.toNat u = some x ∧ x.generation = r.generation + 1 ∧
            x.serviceMap = [] ∧ x.hoursAtService = given ∧
            x.latestHours = (match given, r.latestHours with
              | some g, some l => some (max g l)
              | some g, none => some g
              | none, l => l) ∧
            x.pendingHours = pendingAfter r x.latestHours ∧
            statusDerived s x ∧ u.console = (statusTold r.status x s).console ∧
            { x with
              generation := r.generation, serviceMap := r.serviceMap, touched := r.touched
              hoursAtService := r.hoursAtService, latestHours := r.latestHours
              pendingHours := r.pendingHours, status := r.status } = r ∧
            otherVehiclesKept v.toNat s u ∧
            queuedOnRoutine [⟨1, s.ownNumber, false, 4,
              ServiceNotice.payload ⟨v.toNat, r.generation + 1, given⟩⟩] s u ∧
            { u with
              vehicles := s.vehicles, console := s.console, portA := s.portA, portB := s.portB } = s))

/-! ### Hoses and tanks at the console (R23, R24, R25, R94, R95, R96) -/

/-- Set Preset, in every case of its rule: the request is clamped to the highest class maximum preset. -/
def Obligations.SetPresetStoresAClampedRequest : Prop :=
  ∀ (hose : Byte) (litres : Half) (s : State),
    (s.started = false → exec (.setPreset hose litres) s = .next (completed 0x04 [] s)) ∧
    (s.started = true → 3 < hose.toNat →
      exec (.setPreset hose litres) s = .next (completed 0x03 [] s)) ∧
    ∀ h : HoseId, s.started = true → hose.toNat = h.val →
      let x := s.hose h
      let accepts := x.state = .idle ∨ x.state = .lifted ∨ x.state = .ended ∨ x.state = .refused
      (¬accepts → exec (.setPreset hose litres) s = .next (completed 0x08 [] s)) ∧
      (accepts → litres.toNat = 0 →
        exec (.setPreset hose litres) s
          = .next (completed 0x01 [0, 0] (withHose h { x with requested := none } s))) ∧
      ∀ top : Nat, (∀ c, (s.classCfg c).maxPreset ≤ top) → (∃ c, (s.classCfg c).maxPreset = top) →
        accepts → litres.toNat ≠ 0 →
          let stored := min (litres.toNat * 100) top
          exec (.setPreset hose litres) s
            = .next (completed 0x01
                [BitVec.ofNat 8 (stored / 100 / 256), BitVec.ofNat 8 (stored / 100)]
                (withHose h { x with requested := some stored } s))

/-- Stop Hose, in every state of a hose. Its result in HOLDING is that of R11: ENDED at zero volume, and
the hose goes on to IDLE at once if its nozzle is hung up and its ISSUE is queued; its out-of-service mark stays
(log 30). -/
def Obligations.StopHoseEndsByTheStateOfTheHose : Prop :=
  ∀ (hose : Byte) (s : State),
    (s.started = false → exec (.stopHose hose) s = .next (completed 0x04 [] s)) ∧
    (s.started = true → 3 < hose.toNat → exec (.stopHose hose) s = .next (completed 0x03 [] s)) ∧
    ∀ h : HoseId, s.started = true → hose.toNat = h.val →
      ((s.hose h).state = .running ∨ (s.hose h).state = .slowing ∨ (s.hose h).state = .paused →
        ∃ u, exec (.stopHose hose) s = .next (completed 0x01 [] u) ∧ closes h .aborted s u ∧
          (u.hose h).outOfService = (s.hose h).outOfService) ∧
      (∀ d, (s.hose h).state = .holding → (s.hose h).dispense = some d →
        ∃ u r, exec (.stopHose hose) s = .next (completed 0x01 [] u) ∧
          (u.hose h).dispense = none ∧ (u.hose h).last = some r ∧ r.endReason = .aborted ∧
          r.gross = 0 ∧ r.standard = 0 ∧ r.vehicle = d.vehicle ∧ r.granted = d.granted ∧
          (u.hose h).outOfService = (s.hose h).outOfService ∧
          outputsAre (u.hose h) false false false ∧
          ((s.hose h).lifted = true → (u.hose h).state = .ended)) ∧
      ((s.hose h).state = .closing → exec (.stopHose hose) s = .next (completed 0x01 [] s)) ∧
      ((s.hose h).state = .idle ∨ (s.hose h).state = .lifted ∨ (s.hose h).state = .ended ∨
          (s.hose h).state = .refused ∨ (s.hose h).state = .disabled →
        exec (.stopHose hose) s = .next (completed 0x04 [] s))

/-- Return Hose, in every case of its rule; its result is the hose state. -/
def Obligations.ReturnHoseBringsADisabledHoseBack : Prop :=
  ∀ (hose : Byte) (s : State),
    (s.started = false → exec (.returnHose hose) s = .next (completed 0x04 [] s)) ∧
    (s.started = true → 3 < hose.toNat → exec (.returnHose hose) s = .next (completed 0x03 [] s)) ∧
    ∀ h : HoseId, s.started = true → hose.toNat = h.val →
      ((s.hoseCfg h).fitted = false ∨ (s.hose h).state ≠ .disabled →
        exec (.returnHose hose) s = .next (completed 0x04 [] s)) ∧
      ((s.hoseCfg h).fitted = true → (s.hose h).state = .disabled → (s.hose h).lifted = false →
        ∃ u, exec (.returnHose hose) s = .next (completed 0x01 [0] u) ∧ enters h .idle s u ∧
          outputsAre (u.hose h) false false false ∧ lampAsked h .off u ∧ onlyHose h s u) ∧
      ((s.hoseCfg h).fitted = true → (s.hose h).state = .disabled → (s.hose h).lifted = true →
        ∃ u, exec (.returnHose hose) s = .next (completed 0x01 [1] u) ∧ enters h .lifted s u ∧
          (u.hose h).timers.lift = some 120000 ∧ outputsAre (u.hose h) false false false ∧
          lampAsked h .amber u ∧ (u.tag h).mode = .seek ∧ onlyHose h s u)

namespace Sys2Proof.Machine

/-- R94 to R96, R157, R99: a tank command that has found room: the tank's record is `x`, its STOCK is
queued, and the stages are derived last, that of the tank named among them; the result is `bytes`. -/
def stockCompletes (command : Instr) (k : TankId) (x : Tank) (v : List (Nat × EventDetail))
    (bytes : List Byte) (s : State) : Prop :=
  ∃ u, exec command s = .next (completed 0x01 bytes (settleTanks (some k) s u)) ∧
    u.tank k = x ∧ (∀ j, j ≠ k → u.tank j = s.tank j) ∧
    u.console = (allPosted v s).console ∧
    queuedOnRoutine ((stockParts k x).map fun n => ⟨3, s.ownNumber, false, 6, n.payload⟩) s u ∧
    { u with tanks := s.tanks, console := s.console, portA := s.portA, portB := s.portB } = s

/-- The room that the STOCK of a tank record needs. -/
def roomForStock (k : TankId) (x : Tank) (s : State) : Prop :=
  ∀ p, takesNotices s p → (stockParts k x).length ≤ freeRoutine s p

/-- A tank command's rule in the form its cases share: refused in CONFIG, BAD_PARAMETER, WRONG_STATE,
QUEUE_FULL, or completed. -/
def tankCommand (command : Byte → Word → Instr) (bad : TankId → Word → State → Prop)
    (wrong : TankId → State → Prop) (record : TankId → Word → State → Tank)
    (events : TankId → Word → State → List (Nat × EventDetail))
    (bytes : TankId → Word → State → List Byte) : Prop :=
  ∀ (tank : Byte) (w : Word) (s : State),
    (s.started = false → exec (command tank w) s = .next (completed 0x04 [] s)) ∧
    (s.started = true → 3 < tank.toNat → exec (command tank w) s = .next (completed 0x03 [] s)) ∧
    ∀ k : TankId, s.started = true → tank.toNat = k.val →
      (bad k w s → exec (command tank w) s = .next (completed 0x03 [] s)) ∧
      (¬bad k w s → wrong k s → exec (command tank w) s = .next (completed 0x04 [] s)) ∧
      (¬bad k w s → ¬wrong k s → ¬roomForStock k (record k w s) s →
        exec (command tank w) s = .next (completed 0x05 [] s)) ∧
      (¬bad k w s → ¬wrong k s → roomForStock k (record k w s) s →
        stockCompletes (command tank w) k (record k w s) (events k w s) (bytes k w s) s)

/-- R94: the record after a delivery on the own component. -/
def delivered (k : TankId) (w : Word) (s : State) : Tank :=
  { s.tank k with
    deliveryMap := CompMap.put (s.tank k).deliveryMap s.ownNumber
      (min 4294967295 (CompMap.get (s.tank k).deliveryMap s.ownNumber + w.toNat)) }

/-- R95: the record of a new period. -/
def reopened (k : TankId) (w : Word) (s : State) : Tank :=
  ⟨(s.tank k).period + 1, w.toNat, false, [], [], none, none, false, (s.tank k).stage⟩

/-- R96: the count of the next gauge. -/
def gaugeNumber (x : Tank) : Nat := (x.gauge.map Gauge.count).getD 0 + 1

/-- R96: the volume that a gauge holds. -/
def gaugeHeld (k : TankId) (w : Word) (s : State) : Nat := min w.toNat (s.tankCfg k).capacity

/-- R97: the variance at the gauge, absent while the opening is pending. -/
def gaugeVariance (k : TankId) (w : Word) (s : State) : Option Int :=
  if (s.tank k).openingPending then none else some ((gaugeHeld k w s : Int) - book (s.tank k))

/-- R97: whether a variance exceeds the limit. -/
def exceedsLimit (k : TankId) (w : Word) (s : State) : Bool :=
  match gaugeVariance k w s with
  | some v => decide ((s.tankCfg k).varianceLimit < v.natAbs)
  | none => false

/-- R96, R97: the record with a gauge adopted. -/
def gauged (k : TankId) (w : Word) (s : State) : Tank :=
  { s.tank k with
    gauge := some ⟨gaugeNumber (s.tank k), s.ownNumber, gaugeHeld k w s,
      CompMap.sum (s.tank k).issueMap, CompMap.sum (s.tank k).deliveryMap⟩
    variance := gaugeVariance k w s
    varianceFlag := exceedsLimit k w s }

/-- R97: the VARIANCE event, posted with the flag set or just cleared. -/
def gaugeEvents (k : TankId) (w : Word) (s : State) : List (Nat × EventDetail) :=
  match gaugeVariance k w s with
  | some v =>
    if exceedsLimit k w s || (s.tank k).varianceFlag then
      [(k.val, .variance v (s.tankCfg k).varianceLimit (exceedsLimit k w s))]
    else []
  | none => []

end Sys2Proof.Machine

/-- Record Delivery, Reopen Tank and Report Gauge, in every case of their rules. A routine entry that a hose
waits for with an ISSUE is not free (log 13); the stages are settled after the STOCK is queued (log 33), those of the
named and the changed tanks (log 11). -/
def Obligations.TankCommandsKeepTheAccount : Prop :=
  tankCommand (fun tank w => .recordDelivery tank w)
    (fun _ w _ => w.toNat = 0 ∨ 200000000 < w.toNat) (fun _ _ => False) delivered
    (fun _ _ _ => [])
    (fun k w s => byte4 (CompMap.get (delivered k w s).deliveryMap s.ownNumber)
      ++ signed4 (book (delivered k w s))) ∧
  tankCommand (fun tank w => .reopenTank tank w)
    (fun k w s => (s.tankCfg k).capacity < w.toNat) (fun k s => (s.tank k).period = 65535) reopened
    (fun _ _ _ => []) (fun k _ s => byte2 ((s.tank k).period + 1)) ∧
  tankCommand (fun tank w => .reportGauge tank w)
    (fun _ _ _ => False) (fun k s => 65535 < gaugeNumber (s.tank k)) gauged gaugeEvents
    (fun k w s => byte4 (gaugeHeld k w s) ++ byte2 (gaugeNumber (s.tank k))
      ++ (match gaugeVariance k w s with
        | some v => 1 :: signed4 v
        | none => [0, 0, 0, 0, 0]))

/-- Sound Alert, and the end of the pattern in play. That a pattern's end changes nothing with no pattern in play,
or with TAG_LOST, is the model's choice (logs 4 and 27). -/
def Obligations.AlertPatternsFollowTheirRequests : Prop :=
  ∀ s : State,
    (∀ n : Byte,
      (s.started = false → exec (.soundAlert n) s = .next (completed 0x04 [] s)) ∧
      (s.started = true → 1 ≤ n.toNat → n.toNat ≤ 100 →
        exec (.soundAlert n) s = .next (completed 0x01 [] { s with alert := .sound n.toNat })) ∧
      (s.started = true → n.toNat = 0 ∨ 100 < n.toNat →
        exec (.soundAlert n) s = .next (completed 0x03 [] s))) ∧
    (s.alert = .refuse ∨ s.alert = .locked ∨ (∃ n, s.alert = .sound n) →
      ((∃ h : HoseId, (s.hose h).state = .paused) →
        exec .alertPatternEnd s = .next { s with alert := .tagLost }) ∧
      ((∀ h : HoseId, (s.hose h).state ≠ .paused) →
        exec .alertPatternEnd s = .next { s with alert := .none })) ∧
    (s.alert = .none ∨ s.alert = .tagLost → exec .alertPatternEnd s = .next s)

/-! ### Authorisation (R108 to R115) -/

namespace Sys2Proof.Machine

/-- R115: every configured port is SILENT or FAULT. -/
def cutOffFromSite (s : State) : Prop :=
  ∀ p : PortId, (s.portCfg p).configured = true →
    (s.port p).state = .silent ∨ (s.port p).state = .fault

/-- R112: the remaining allowance of a record, with the allowance fraction in per cent. -/
def allowanceLeft (fraction : Nat) (s : State) (r : VehicleRecord) : Nat :=
  (s.classCfg r.cls).allowance * fraction / 100
    - (if r.shift = s.sigma then CompMap.sum r.shiftMap else 0)

/-- R112: the volumes whose smallest is the grant. -/
def grantVolumes (fraction : Nat) (h : HoseId) (s : State) (r : VehicleRecord) : List Nat :=
  let c := s.classCfg r.cls
  let k := (s.hoseCfg h).tank
  [(s.hose h).requested.getD c.maxPreset, c.maxPreset, allowanceLeft fraction s r]
    ++ (if r.status = .locked then [c.limp] else [])
    ++ (if (s.tank k).stage = .critical then [(s.tankCfg k).criticalCap] else [])

/-- R100: whether the stage of a tank serves a priority. -/
def stageServes (x : Stage) (priority : Nat) : Prop :=
  x = .normal ∨ (x = .reserve ∧ priority ≤ 1) ∨ (x = .critical ∧ priority = 0)

/-- R112: `g` is the smallest of the volumes. -/
def smallestOf (l : List Nat) (g : Nat) : Prop := g ∈ l ∧ ∀ x ∈ l, g ≤ x

/-- R115, R107: the allowance fraction in force. -/
def fractionIs (f : Nat) (s : State) : Prop :=
  (cutOffFromSite s → f = s.cfg.station.isolatedFraction) ∧ (¬cutOffFromSite s → f = 100)

end Sys2Proof.Machine

/-- The evaluation: the five checks in their order, the first that fails giving the reason, and the grant
with its flags. -/
def Obligations.EvaluationMakesTheFiveChecksInOrder : Prop :=
  ∀ (h : HoseId) (v : Nat) (tag : Option ClassId) (s : State), s.started = true →
    (findVehicle v s = none →
      (∀ c, tag = some c → evaluate h v tag s = .refuse .tableFull c) ∧
      (tag = none → evaluate h v tag s = .refuse .unknownVehicle 0)) ∧
    ∀ r, findVehicle v s = some r →
      let c := s.classCfg r.cls
      let stage := (s.tank (s.hoseCfg h).tank).stage
      let held := ∃ e ∈ s.holds, e.vehicle = v
      (held → evaluate h v tag s = .refuse .heldElsewhere r.cls) ∧
      (¬held → stage = .cutoff → evaluate h v tag s = .refuse .cutoff r.cls) ∧
      (¬held → stage ≠ .cutoff → ¬stageServes stage c.priority →
        evaluate h v tag s = .refuse .reserve r.cls) ∧
      (¬held → stageServes stage c.priority →
        (r.status = .locked → c.limp = 0 → evaluate h v tag s = .refuse .serviceLocked r.cls) ∧
        (¬(r.status = .locked ∧ c.limp = 0) → ∀ fraction g, fractionIs fraction s →
          smallestOf (grantVolumes fraction h s r) g →
          (g < s.cfg.station.minDispense → evaluate h v tag s = .refuse .allowance r.cls) ∧
          (s.cfg.station.minDispense ≤ g → ∃ flags, evaluate h v tag s = .grant r.cls g flags r.status ∧
            (flags.manual = true ↔ tag = none) ∧ (flags.isolated = true ↔ cutOffFromSite s) ∧
            (flags.limp = true ↔ r.status = .locked) ∧
            (flags.capped = true ↔ g < (s.hose h).requested.getD c.maxPreset) ∧
            flags.overrun = false ∧ flags.meterWarn = false ∧ flags.uncompensated = false)))

namespace Sys2Proof.Machine

/-- R82: the last act of CHECKING: `w` is the state before it, and the record that check 1 has left as `r` takes
its status in `t`. The other records are those of `s`, and so is the whole table where nothing of it changes. -/
def statusLast (v : Nat) (r : VehicleRecord) (s w t : State) : Prop :=
  ∃ x, findVehicle v t = some x ∧ statusDerived s x ∧
    { x with status := r.status, touched := r.touched } = r ∧
    x.touched = (if x.status = r.status then r.touched else s.tick) ∧
    t.console = (statusTold r.status x w).console ∧ otherVehiclesKept v s t ∧
    (findVehicle v s = some x → (∀ y ∈ s.vehicles, y.vehicle = v → y = x) → t.vehicles = s.vehicles) ∧
    { t with vehicles := w.vehicles, console := w.console } = w

/-- R22: a hose is refused: REFUSED, the lamp RED, the REFUSE alert, HOSE_STATE and REFUSAL, and the count
of the class. -/
def refusedWith (h : HoseId) (r : RefusalReason) (cls : ClassId) (s t : State) : Prop :=
  (t.hose h).state = .refused ∧ outputsAre (t.hose h) false false false ∧ lampAsked h .red t ∧
    (t.tag h).mode = .quiet ∧ t.alert = .refuse ∧ (t.hose h).timers.lift = none ∧
    (t.hose h).dispense = (s.hose h).dispense ∧ (t.hose h).requested = (s.hose h).requested ∧
    t.console = (posted h.val (.refusal r)
      (posted h.val (.hoseState .refused (s.hose h).state) s)).console ∧
    (∀ i : Fin 10, ((t.classCounters.get cls).refusals.get i) =
      if i = r.index then ((s.classCounters.get cls).refusals.get i).add 1
      else (s.classCounters.get cls).refusals.get i) ∧
    (∀ c, c ≠ cls → t.classCounters.get c = s.classCounters.get c) ∧
    (∀ k, k ≠ h → t.hose k = s.hose k ∧ t.tag k = s.tag k) ∧
    { t with
      hoses := s.hoses, tags := s.tags, console := s.console, alert := s.alert
      classCounters := s.classCounters } = s

/-- Section 12.1: a code that counts from `first` in the order of a table. -/
def codeFrom {α : Type} [DecidableEq α] (first : Nat) (table : List α) (x : α) : List Byte :=
  [BitVec.ofNat 8 (first + table.idxOf x)]

/-- Section 12.1: the hose states. -/
def hoseStateCode : HoseState → List Byte :=
  codeFrom 0 [.idle, .lifted, .checking, .holding, .running, .slowing, .paused, .closing, .ended,
    .refused, .disabled]

/-- Section 12.1: the end reasons. -/
def endReasonCode : EndReason → List Byte :=
  codeFrom 1 [.preset, .nozzle, .aborted, .noFlow, .time, .tagLost, .tagChanged, .meterFault,
    .meterReverse, .cutoff, .doubleHold, .valveFault, .restart]

/-- Section 12.1: the refusal reasons. -/
def refusalCode : RefusalReason → List Byte :=
  codeFrom 1 [.unknownVehicle, .tableFull, .heldElsewhere, .cutoff, .reserve, .serviceLocked,
    .allowance, .noTag, .lineBusy, .doubleHold]

/-- Section 12.1: the service statuses. -/
def statusCode : ServiceStatus → List Byte := codeFrom 0 [.ok, .due, .overdue, .locked]

/-- Section 12.1: the stages. -/
def stageCode : Stage → List Byte := codeFrom 0 [.normal, .reserve, .critical, .cutoff]

/-- Section 12.1: the port states. -/
def portStateCode : PortState → List Byte := codeFrom 0 [.off, .active, .silent, .fault]

/-- Section 12.1: the FAULT causes, or none. -/
def faultCode : Option FaultCause → List Byte :=
  codeFrom 0 [none, some .transmit, some .stall, some .duplicate]

/-- Section 12.1: the origins of a vehicle record. -/
def originCode : Origin → List Byte := codeFrom 1 [.tag, .enrol, .notice]

/-- Section 12.1: the lamp commands. -/
def lampCode : Lamp → List Byte := codeFrom 0 [.off, .amber, .green, .red, .redFlash, .amberFlash]

/-- Section 12.1: the dispense flags, MANUAL in bit 0 to CAPPED in bit 6. -/
def flagsCode (f : DispenseFlags) : List Byte :=
  byte1 (f.manual.toNat + 2 * f.uncompensated.toNat + 4 * f.overrun.toNat + 8 * f.meterWarn.toNat
    + 16 * f.isolated.toNat + 32 * f.limp.toNat + 64 * f.capped.toNat)

/-- R8, R117: the hold number of the next dispense. -/
def nextHoldNumber (s : State) : Nat := (s.holdCounter + 1) % 256

/-- R117: the own entry of a dispense granted now. -/
def entryOf (h : HoseId) (v preset : Nat) (s : State) : HoldEntry :=
  ⟨s.ownNumber, h, v, s.sigma, (s.hoseCfg h).tank, preset, nextHoldNumber s, 0⟩

/-- R8, R129: the HOLD of a dispense granted now, queued at once on every port that takes notices if each
of them has a free urgent entry; otherwise the hose waits, and no queue changes. -/
def holdOffered (h : HoseId) (v preset : Nat) (s t : State) : Prop :=
  let e := entryOf h v preset s
  let entry : QueueEntry :=
    ⟨⟨0, s.ownNumber, false, 1, HoldNotice.payload ⟨v, h, e.number, s.sigma, e.tank, preset⟩⟩,
      .ordinary, some (h, e.number)⟩
  ((∀ p, takesNotices s p → 0 < freeUrgent s p) →
    (t.hose h).phase = .awaiting ∧ (t.hose h).timers.queueWait = none ∧
    ∀ p, (takesNotices s p →
        (t.hose h).waitPorts.mem p = true ∧
        (t.port p).urgent = (s.port p).urgent ++ [entry] ∧
        (t.port p).routine = (s.port p).routine ∧ samePortBut s t p) ∧
      (¬takesNotices s p → (t.hose h).waitPorts.mem p = false ∧ t.port p = s.port p)) ∧
  ((∃ p, takesNotices s p ∧ freeUrgent s p = 0) →
    (t.hose h).phase = .queueWait ∧ (t.hose h).timers.queueWait = some 5000 ∧
    ∀ p, t.port p = s.port p ∧ ((t.hose h).waitPorts.mem p = true ↔ takesNotices s p))

/-- R32: the count of a window. -/
def countOf (m : Meter) : Int := if m.phaseError then m.aRise else m.net

/-- R45: the late pulses after a late window. -/
def latePulsesAfter (m : Meter) : Nat := ((m.latePulses : Int) + countOf m).toNat

/-- R45: the late volume after a late window. -/
def lateVolumeAfter (c : HoseCfg) (m : Meter) : Nat := m.carried + latePulsesAfter m * 10000 / c.kh

/-- R21: whether a late window of a hose reports a leak: the first above 50 cL of its period. -/
def leakSeen (h : HoseId) (s : State) : Bool :=
  decide (50 < lateVolumeAfter (s.hoseCfg h) (s.meter h)) && !(s.hose h).leakReported

/-- R21: the leak reported that a late window sees. -/
def leakTold (h : HoseId) (s : State) : State :=
  if leakSeen h s then posted h.val (.valveLeak (lateVolumeAfter (s.hoseCfg h) (s.meter h))) s else s

/-- R7, R8, R44, R117, R48: a hose in LIFTED is granted a dispense at a station with a port that takes
notices, and enters HOLDING. A leak that the late window then processed shows is reported before the HOSE_STATE, which
is the model's choice (log 38). -/
def grantedTo (h : HoseId) (v : Nat) (cls : ClassId) (preset : Nat) (flags : DispenseFlags)
    (status : ServiceStatus) (s t : State) : Prop :=
  (t.hose h).state = .holding ∧ outputsAre (t.hose h) false false false ∧
    (t.hose h).dispense = some ⟨v, cls, nextHoldNumber s, s.sigma, (s.hoseCfg h).tank, preset, s.tick,
      none, { flags with uncompensated := (t.meter h).fallback }, none, decide (status = .due)⟩ ∧
    (t.hose h).outOfService = false ∧ (t.hose h).lateVolume = 0 ∧
    (t.hose h).pendingIssue = ⟨false, false⟩ ∧ (t.hose h).timers.lift = none ∧
    t.holdCounter = nextHoldNumber s ∧
    findHold s.ownNumber h t.holds = some (entryOf h v preset s) ∧
    (∀ k j, ¬(k = s.ownNumber ∧ j = h) → findHold k j t.holds = findHold k j s.holds) ∧
    (t.meter h).c = 0 ∧ (t.meter h).g = 0 ∧ (t.meter h).acc = 0 ∧ (t.meter h).s = 0 ∧
    (t.meter h).reverseTotal = 0 ∧ (t.meter h).net = 0 ∧ (t.meter h).t10 = none ∧
    (t.meter h).lateActive = false ∧
    (t.meter h).fallback = (s.meter h).held.isNone ∧ (t.meter h).held = (s.meter h).held ∧
    ((s.meter h).lateActive = false →
      t.console = (posted h.val (.hoseState .holding .lifted) s).console ∧
      t.hoseCounters.get h = s.hoseCounters.get h) ∧
    ((s.meter h).lateActive = true →
      t.console = (posted h.val (.hoseState .holding .lifted) (leakTold h s)).console ∧
      t.hoseCounters.get h =
        { s.hoseCounters.get h with
          latePulses := (s.hoseCounters.get h).latePulses.add (countOf (s.meter h)).toNat }) ∧
    (t.tag h).mode = (if flags.manual then .manual else .wait) ∧
    (status = .overdue ∨ status = .locked → t.alert = .locked) ∧
    holdOffered h v preset s t ∧
    (∀ k, k ≠ h → t.hose k = s.hose k ∧ t.tag k = s.tag k ∧ t.meter k = s.meter k ∧
      t.hoseCounters.get k = s.hoseCounters.get k) ∧
    { t with
      hoses := s.hoses, tags := s.tags, meters := s.meters, hoseCounters := s.hoseCounters
      holds := s.holds, holdCounter := s.holdCounter, vehicles := s.vehicles, console := s.console
      alert := s.alert, portA := s.portA, portB := s.portB } = s

/-- R12: where the tests leave a hose that enters RUNNING or SLOWING, or reports a window there, with the
standard volume `vol`. Both points are signed differences. -/
def testedState (c : HoseCfg) (granted vol : Nat) (from_ : HoseState) : HoseState :=
  if (granted : Int) - c.closeAhead ≤ vol then .closing
  else if from_ = .running ∧ (granted : Int) - c.slowDown ≤ vol then .slowing
  else from_

/-- R3: the outputs of a state in issue or CLOSING. -/
def issueOutputs (x : Hose) : Prop :=
  (x.state = .running → outputsAre x true true true) ∧
    (x.state = .slowing → outputsAre x true false true) ∧
    (x.state = .paused → outputsAre x true false false) ∧
    (x.state = .closing → outputsAre x false false false)

/-- R16: what a hose that went to CLOSING holds. -/
def closingWith (r : EndReason) (c : HoseCfg) (x : Hose) : Prop :=
  (∀ d, x.dispense = some d → d.endReason = some r) ∧
    x.timers.afterFlow = some (c.afterFlow * 100) ∧ x.timers.noFlow = none ∧
    x.timers.duration = none ∧ x.timers.tagReturn = none

/-- R11, R17: a dispense ended from HOLDING at zero volume. -/
def endedAtZero (r : EndReason) (d : Dispense) (x y : Hose) : Prop :=
  y.dispense = none ∧ y.requested = none ∧ y.phase = .none ∧ y.timers.queueWait = none ∧
    y.timers.settle = none ∧ outputsAre y false false false ∧
    (x.lifted = true → y.state = .ended) ∧
    ∃ rec, y.last = some rec ∧ rec.endReason = r ∧ rec.gross = 0 ∧ rec.standard = 0 ∧
      rec.vehicle = d.vehicle ∧ rec.granted = d.granted ∧ rec.holdNumber = d.holdNumber

/-- R10: what the valve coil check leaves of a hose that was `x`, with the standard volume `vol` and the
open dispense `d`: a good coil sends it to RUNNING, and on through the tests at once; a bad one ends the
dispense at zero volume with the out-of-service mark. -/
def coilChecked (h : HoseId) (coil : CoilSense) (d : Dispense) (vol : Nat) (c : HoseCfg) (x : Hose)
    (t : State) : Prop :=
  let y := t.hose h
  (coil = .good →
    y.state = testedState c d.granted vol .running ∧ issueOutputs y ∧ y.phase = .none ∧
    y.timers.settle = none ∧
    y.timers.serviceLamp = (if d.serviceLamp then some 5000 else x.timers.serviceLamp) ∧
    (y.state ≠ .closing →
      y.timers.duration = some 1800000 ∧ y.timers.noFlow = some (c.noFlowLimit * 1000) ∧
      y.dispense = some d ∧ lampAsked h (if d.serviceLamp then .amberFlash else .green) t) ∧
    (y.state = .closing → closingWith .preset c y)) ∧
  (coil ≠ .good →
    endedAtZero .valveFault d x y ∧ (x.lifted = true → y.outOfService = true))

/-- R7, R8, R9, R10, R115: a hose in LIFTED is granted a dispense at a station that no port connects: its
own hold is written, no port is waited for, and the valve coil check is made at once. -/
def grantedCutOff (h : HoseId) (v : Nat) (cls : ClassId) (preset : Nat) (flags : DispenseFlags)
    (status : ServiceStatus) (coil : CoilSense) (s t : State) : Prop :=
  let d : Dispense := ⟨v, cls, nextHoldNumber s, s.sigma, (s.hoseCfg h).tank, preset, s.tick, none,
    { flags with uncompensated := (s.meter h).held.isNone }, none, decide (status = .due)⟩
  coilChecked h coil d 0 (s.hoseCfg h) (s.hose h) t ∧ t.holdCounter = nextHoldNumber s ∧
    (coil = .good → findHold s.ownNumber h t.holds = some (entryOf h v preset s)) ∧
    (coil ≠ .good → findHold s.ownNumber h t.holds = none) ∧
    (∀ k j, ¬(k = s.ownNumber ∧ j = h) → findHold k j t.holds = findHold k j s.holds) ∧
    (∀ p, t.port p = s.port p)

end Sys2Proof.Machine

/-- Manual Authorise, in every case of its rule; at a station that no port connects the valve coil check
follows at once. The status of the record is derived last, and the evaluation reads the one that the record holds
(log 35). The coil level is an operand (log 6); the order of HOSE_STATE, REFUSAL and SERVICE_STATUS is log 12,
and a VALVE_LEAK before HOSE_STATE log 38; the stages are settled last (log 11). -/
def Obligations.ManualAuthoriseEvaluatesALiftedHose : Prop :=
  ∀ (hose : Byte) (v : Half) (coils : Quad CoilSense) (s : State),
    let command := Instr.manualAuthorise hose v coils
    (s.started = false → exec command s = .next (completed 0x04 [] s)) ∧
    (s.started = true → 3 < hose.toNat ∨ ¬vehicleNumber v →
      exec command s = .next (completed 0x03 [] s)) ∧
    ∀ h : HoseId, s.started = true → hose.toNat = h.val → vehicleNumber v →
      ((s.hose h).state ≠ .lifted → exec command s = .next (completed 0x08 [] s)) ∧
      ((s.hose h).state = .lifted →
        (findVehicle v.toNat s = none →
          ∃ u, exec command s = .next (completed 0x01 [9, 0, 0, 0, 0, 0, 1] u) ∧
            refusedWith h .unknownVehicle 0 s u) ∧
        ∀ r, findVehicle v.toNat s = some r →
          (∀ reason cls, evaluate h v.toNat none s = .refuse reason cls →
            ∃ w t, exec command s
                = .next (completed 0x01 ([9, 0, 0, 0, 0, 0] ++ refusalCode reason) t) ∧
              refusedWith h reason cls s { w with vehicles := s.vehicles } ∧
              statusLast v.toNat r s w t) ∧
          (∀ cls preset flags status, evaluate h v.toNat none s = .grant cls preset flags status →
            ∃ w t, exec command s = .next
                (completed 0x01 ([3] ++ byte4 preset ++ flagsCode flags ++ [0]) (settleTanks none s t)) ∧
              statusLast v.toNat r s w t ∧
              ((∃ p, takesNotices s p) → grantedTo h v.toNat cls preset flags status s w) ∧
              ((∀ p, ¬takesNotices s p) →
                grantedCutOff h v.toNat cls preset flags status (coils.get h) s w)))

/-! ### Nozzle, HOLDING and issue (R5 to R16) -/

namespace Sys2Proof.Machine

/-- R5: the switch position recorded. -/
def switched (h : HoseId) (lifted : Bool) (s : State) : State :=
  withHose h { s.hose h with lifted := lifted, switchKnown := true } s

end Sys2Proof.Machine

/-- The nozzle switch: the first level, a lift in IDLE and elsewhere, a hang-up outside a dispense, and the
lift timeout. The edges are taken as given (log 7); HOSE_STATE stands before REFUSAL (log 12). -/
def Obligations.NozzleSwitchMovesAnIdleHose : Prop :=
  ∀ (h : HoseId) (s : State),
    (∀ b, (s.hose h).switchKnown = false →
      exec (.switchInitialLevel h b) s = .next (switched h b s)) ∧
    (s.started = true → (s.hose h).state = .idle →
      ∃ t, exec (.lift h) s = .next t ∧ enters h .lifted s t ∧ (t.hose h).lifted = true ∧
        (t.hose h).timers = { (s.hose h).timers with lift := some 120000 } ∧
        outputsAre (t.hose h) false false false ∧ lampAsked h .amber t ∧ (t.tag h).mode = .seek ∧
        onlyHose h s t) ∧
    ((s.hose h).state ≠ .idle → exec (.lift h) s = .next (switched h true s)) ∧
    ((s.hose h).state = .lifted →
      ∃ t, exec (.hangUp h) s = .next t ∧ enters h .idle s t ∧ (t.hose h).lifted = false ∧
        (t.hose h).timers = { (s.hose h).timers with lift := none } ∧
        outputsAre (t.hose h) false false false ∧ lampAsked h .off t ∧ (t.tag h).mode = .quiet ∧
        onlyHose h s t) ∧
    ((s.hose h).state = .idle ∨ (s.hose h).state = .closing ∨ (s.hose h).state = .disabled →
      exec (.hangUp h) s = .next (switched h false s)) ∧
    ((s.hose h).state = .ended ∨ (s.hose h).state = .refused →
      ((s.hose h).pendingIssue ≠ ⟨false, false⟩ →
        exec (.hangUp h) s = .next (switched h false s)) ∧
      ((s.hose h).pendingIssue = ⟨false, false⟩ →
        ∃ t, exec (.hangUp h) s = .next t ∧
          enters h (if (s.hose h).state = .ended ∧ (s.hose h).outOfService then .disabled else .idle)
            s t ∧ (t.hose h).lifted = false ∧ outputsAre (t.hose h) false false false ∧
          lampAsked h .off t ∧ onlyHose h s t)) ∧
    ((s.hose h).state = .lifted → (s.hose h).timers.lift ≠ none →
      ∃ t, exec (.liftTimeout h) s = .next t ∧ refusedWith h .noTag 0 s t)

namespace Sys2Proof.Machine

/-- R8, R151: the entry of the first HOLD of a hose, from its own hold entry. -/
def firstHold (h : HoseId) (e : HoldEntry) (s : State) : QueueEntry :=
  ⟨⟨0, s.ownNumber, false, 1,
    HoldNotice.payload ⟨e.vehicle, e.hose, e.number, e.shift, e.tank, e.preset⟩⟩,
    .ordinary, some (h, e.number)⟩

/-- R8, R129: a hose waits to queue its HOLD and holds a reserved entry on every port it waits for. -/
def holdReady (h : HoseId) (s : State) : Prop :=
  (s.hose h).phase = .queueWait ∧
    ∀ p, (s.hose h).waitPorts.mem p = true → (s.hose h).reserved.mem p = true

end Sys2Proof.Machine

/-- The queue wait of HOLDING: with a reserved entry on every port waited for, the HOLD stands in the urgent
queue of each and the hose awaits its transmission; with no port left to wait for, the settle window or, at
an isolated station, the coil check follows at once; without a reserved entry it waits on; at the expiry of the
wait the hose is refused LINE_BUSY with no record and no ISSUE. That no VALVE_LEAK is posted there, whatever volume is
carried from HOLDING, but at the first late window is the model's reading (log 16). The coil level is an operand
(log 6), HOSE_STATE stands before REFUSAL (log 12), the stages are settled last (log 11), and the placing is a command
of its own (log 14). -/
def Obligations.QueueWaitEndsWithTheHoldOrLineBusy : Prop :=
  ∀ (h : HoseId) (coils : Quad CoilSense) (s : State),
    (∀ e, holdReady h s → (s.hose h).waitPorts ≠ ⟨false, false⟩ →
      findHold s.ownNumber h s.holds = some e →
      ∃ t, exec (.holdQueued h coils) s = .next t ∧
        t.hose h = { s.hose h with
          phase := .awaiting, reserved := ⟨false, false⟩
          timers := { (s.hose h).timers with queueWait := none } } ∧
        (∀ k, k ≠ h → t.hose k = s.hose k) ∧
        findHold s.ownNumber h t.holds = some { e with age := 0 } ∧
        (∀ k j, ¬(k = s.ownNumber ∧ j = h) → findHold k j t.holds = findHold k j s.holds) ∧
        (∀ p, ((s.hose h).waitPorts.mem p = true →
            (t.port p).urgent = (s.port p).urgent ++ [firstHold h e s] ∧
            (t.port p).routine = (s.port p).routine ∧ samePortBut s t p) ∧
          ((s.hose h).waitPorts.mem p = false → t.port p = s.port p)) ∧
        { t with hoses := s.hoses, holds := s.holds, portA := s.portA, portB := s.portB } = s) ∧
    (∀ e, holdReady h s → (s.hose h).waitPorts = ⟨false, false⟩ →
      findHold s.ownNumber h s.holds = some e →
      (¬cutOffFromSite s → ∃ t, exec (.holdQueued h coils) s = .next t ∧
        t.hose h = { s.hose h with
          phase := .settle, reserved := ⟨false, false⟩
          timers := { (s.hose h).timers with
            queueWait := none, settle := some s.cfg.station.settleWindow } } ∧
        (∀ p, t.port p = s.port p)) ∧
      (∀ d, s.started = true → cutOffFromSite s → (s.hose h).dispense = some d →
        ∃ u, exec (.holdQueued h coils) s = .next (settleTanks none s u) ∧
          coilChecked h (coils.get h) d (s.meter h).s (s.hoseCfg h) (s.hose h) u)) ∧
    (¬holdReady h s → exec (.holdQueued h coils) s = .next s) ∧
    (∀ d, (s.hose h).state = .holding → (s.hose h).timers.queueWait ≠ none →
      (s.hose h).dispense = some d → (s.hose h).lifted = true →
      ∃ u, exec (.queueWaitExpiry h) s = .next (settleTanks none s u) ∧
        (u.hose h).state = .refused ∧ outputsAre (u.hose h) false false false ∧
        u.console = (posted h.val (.refusal .lineBusy)
          (posted h.val (.hoseState .refused .holding) s)).console ∧
        (u.hose h).dispense = none ∧ (u.hose h).last = (s.hose h).last ∧
        (u.hose h).requested = (s.hose h).requested ∧
        (u.hose h).pendingIssue = (s.hose h).pendingIssue ∧
        (u.hose h).lateVolume = (s.meter h).g ∧ (u.hose h).leakReported = false ∧
        (u.meter h).carried = (s.meter h).g ∧ (u.meter h).lateActive = true ∧
        (u.meter h).c = 0 ∧ (u.meter h).s = 0 ∧ u.alert = .refuse ∧ lampAsked h .red u ∧
        u.holds = s.holds.filter (fun e => decide (¬(e.station = s.ownNumber ∧ e.hose = h))) ∧
        u.vehicles = s.vehicles ∧ u.tanks = s.tanks ∧ u.portA = s.portA ∧ u.portB = s.portB)

/-- The end of the settle window: a good coil sends the hose to RUNNING with both timers started, and on
through the tests at once; a bad coil ends the dispense at zero volume with the out-of-service mark. -/
def Obligations.SettleEndChecksTheCoil : Prop :=
  ∀ (h : HoseId) (s : State) (d : Dispense), (s.hose h).state = .holding →
    (s.hose h).timers.settle ≠ none → (s.hose h).dispense = some d →
    ∀ coil, ∃ t, exec (.settleExpiry h coil) s = .next t ∧
      coilChecked h coil d (s.meter h).s (s.hoseCfg h) (s.hose h) t ∧ (coil = .good → onlyHose h s t)

/-- The endings of a dispense in issue: the no-flow, duration and tag return timers and the hang-up; a
hang-up in HOLDING ends at zero volume. TAG_LOST ends at once when the last hose in PAUSED leaves it, and no other alert
does. A hang-up is an edge as given (log 7). -/
def Obligations.TimersAndHangUpEndADispense : Prop :=
  ∀ (h : HoseId) (s : State),
    ((s.hose h).state = .running ∨ (s.hose h).state = .slowing → (s.hose h).timers.noFlow ≠ none →
      ∃ t, exec (.noFlowExpiry h) s = .next t ∧ closes h .noFlow s t) ∧
    ((s.hose h).state = .running ∨ (s.hose h).state = .slowing ∨ (s.hose h).state = .paused →
      (s.hose h).timers.duration ≠ none →
      ∃ t, exec (.durationExpiry h) s = .next t ∧ closes h .time s t) ∧
    ((s.hose h).state = .paused → (s.hose h).timers.tagReturn ≠ none →
      ∃ t, exec (.tagReturnExpiry h) s = .next t ∧ closes h .tagLost s t) ∧
    ((s.hose h).state = .running ∨ (s.hose h).state = .slowing ∨ (s.hose h).state = .paused →
      ∃ t, exec (.hangUp h) s = .next t ∧ closes h .nozzle s t ∧ (t.hose h).lifted = false) ∧
    (∀ d, (s.hose h).state = .holding → (s.hose h).dispense = some d →
      ∃ t, exec (.hangUp h) s = .next t ∧
        endedAtZero .nozzle d { s.hose h with lifted := false } (t.hose h) ∧ alertFollows s t)

namespace Sys2Proof.Machine

/-- R14: a hose in RUNNING or SLOWING loses its tag. -/
def pauses (h : HoseId) (s t : State) : Prop :=
  enters h .paused s t ∧ outputsAre (t.hose h) true false false ∧ lampAsked h .redFlash t ∧
    t.alert = .tagLost ∧ (t.tag h).mode = .search ∧ (t.tag h).tracker = [] ∧
    (t.tag h).watchTimer = none ∧
    (t.hose h).timers =
      { (s.hose h).timers with
        noFlow := none, tagReturn := some (s.cfg.station.tagReturnLimit * 1000) } ∧
    (t.hose h).dispense = (s.hose h).dispense

/-- R52: the line of a tag link goes to BREAK. -/
def brokenLink (x : TagLink) : TagLink :=
  { x with
    line := .broken, message := [], gapTimer := none, leftover := .none, dataLow := false
    tracker := [], watchTimer := if x.mode = .watch then none else x.watchTimer }

/-- R49, R59: a lamp command is about to be sent. -/
abbrev lampComing (x : TagLink) : Prop :=
  x.pendingLamp ≠ none ∧ x.message = [] ∧ x.buffer = none ∧ x.inFlight = none

/-- R49, R51: the phase of the line that the conditions call for: HELD in QUIET, with a message in the receive
buffer, with a lamp command about to be sent, and until data rises after an overrun; OPEN otherwise. -/
def lineFor (x : TagLink) : LinePhase :=
  if x.mode = .quiet ∨ x.buffer ≠ none ∨ lampComing x ∨ x.dataLow = true then .held else .opened

/-- R49: a link whose line follows the conditions, unless it is in SENDING or BREAK. -/
def settled (x : TagLink) : TagLink :=
  if x.line = .sending ∨ x.line = .broken then x else { x with line := lineFor x }

/-- R47: one more fault on a tag link. -/
def faultCounted (h : HoseId) (s : State) : State :=
  let k := s.hoseCounters.get h
  { s with hoseCounters := s.hoseCounters.set h { k with tagFaults := k.tagFaults.add 1 } }

/-- R60: a tag link whose lamp command has ended: the line leaves SENDING as R49 gives. -/
def lampEnded (x : TagLink) : TagLink :=
  let y : TagLink := { x with inFlight := none, lampBits := [], lampTimer := none }
  { y with line := lineFor y }

/-- R187: the 11 bits of a byte on a tag link: a low start bit, the data bits least significant first, a parity bit
that makes the ones odd, and a high stop bit. -/
def framedByte (b : Byte) : List Bool :=
  let rising := [0, 1, 2, 3, 4, 5, 6, 7].map b.getLsbD
  [false] ++ rising ++ [decide (rising.count true % 2 = 0), true]

/-- R49, R51, R52: a tag link whose data line is high again. -/
def highLink (x : TagLink) : TagLink :=
  let y : TagLink := { x with dataLow := false }
  { y with line := lineFor y }

/-- R58: a tag link that has been asked for a lamp. -/
def lampPended (l : Lamp) (x : TagLink) : TagLink :=
  settled { x with pendingLamp := some l, lastLamp := l }

end Sys2Proof.Machine

/-- Tag loss: the tag watch in WATCH and a reader fault in WATCH pause an issuing hose; a fault in SEEK posts
TAG_FAULT; in the other modes a fault is counted alone. Data that rises ends a break, and the low that an
overrun left (log 37): the line takes the phase of R49. That a break leaves a discarded message no bytes to come is
log 36, and that out of their cases the commands change nothing log 4: the model's choices. -/
def Obligations.TagLossAndReaderFaultsAreReported : Prop :=
  ∀ (h : HoseId) (s : State),
    ((s.tag h).mode = .watch → (s.tag h).watchTimer ≠ none →
      ((s.hose h).state = .running ∨ (s.hose h).state = .slowing →
        ∃ t, exec (.tagWatchExpiry h) s = .next t ∧ pauses h s t ∧ onlyHose h s t) ∧
      ((s.hose h).state ≠ .running → (s.hose h).state ≠ .slowing →
        exec (.tagWatchExpiry h) s
          = .next (withTag h { s.tag h with watchTimer := none } s))) ∧
    (s.started = true → (s.hoseCfg h).fitted = true →
      (s.tag h).line = .opened ∨ (s.tag h).line = .held →
      ((s.tag h).mode = .watch → (s.hose h).state = .running ∨ (s.hose h).state = .slowing →
        ∃ t, exec (.breakStart h) s = .next t ∧ pauses h s t ∧ (t.tag h).line = .broken ∧
          t.hoseCounters = (faultCounted h s).hoseCounters ∧
          onlyHose h s { t with hoseCounters := s.hoseCounters }) ∧
      ((s.tag h).mode = .seek →
        exec (.breakStart h) s
          = .next (posted h.val .tagFault (faultCounted h (withTag h (brokenLink (s.tag h)) s)))) ∧
      ((s.tag h).mode ≠ .watch → (s.tag h).mode ≠ .seek →
        exec (.breakStart h) s = .next (faultCounted h (withTag h (brokenLink (s.tag h)) s)))) ∧
    ((s.tag h).line = .broken ∨ ((s.tag h).line ≠ .sending ∧ (s.tag h).dataLow = true) →
      exec (.breakEnd h) s = .next (withTag h (highLink (s.tag h)) s)) ∧
    ((s.tag h).line = .sending ∨ ((s.tag h).line ≠ .broken ∧ (s.tag h).dataLow = false) →
      exec (.breakEnd h) s = .next s) ∧
    (s.started = false ∨ (s.hoseCfg h).fitted = false ∨ (s.tag h).line = .broken ∨
        (s.tag h).line = .sending →
      exec (.breakStart h) s = .next s)

/-- The service lamp and the lamp commands of a tag link: a pending command holds the line and is sent on a line at
rest with no message in progress, its byte in 11 bits, completes or is dropped at its timer, and the line then takes
the phase that the conditions call for. That a send shows data to be high again after an overrun is log 37, that it
leaves a discarded message no bytes to come log 36, and that the sender's order decides between a send and a byte log
22: the model's choices. -/
def Obligations.LampCommandsAreSentAndCompleted : Prop :=
  ∀ (h : HoseId) (s : State),
    ((s.hose h).timers.serviceLamp ≠ none →
      let timers := { (s.hose h).timers with serviceLamp := none }
      let quiet := withHose h { s.hose h with timers := timers } s
      ((s.hose h).state = .running ∨ (s.hose h).state = .slowing →
        exec (.serviceLampExpiry h) s = .next (withTag h (lampPended .green (s.tag h)) quiet)) ∧
      ((s.hose h).state ≠ .running → (s.hose h).state ≠ .slowing →
        exec (.serviceLampExpiry h) s = .next quiet)) ∧
    (∀ l, s.started = true → (s.hoseCfg h).fitted = true → (s.tag h).pendingLamp = some l →
      (s.tag h).line = .held ∨ (s.tag h).line = .opened → (s.tag h).message = [] →
      (s.tag h).buffer = none → (s.tag h).inFlight = none →
      exec (.lampCommandSend h) s = .next (withTag h
        { s.tag h with
          line := .sending, inFlight := some l, lampBits := framedByte ((lampCode l).headD 0)
          pendingLamp := none, lampTimer := some 15
          dataLow := false, leftover := .none } s)) ∧
    (s.started = false ∨ (s.hoseCfg h).fitted = false ∨ (s.tag h).line = .sending ∨
        (s.tag h).line = .broken ∨ ¬lampComing (s.tag h) →
      exec (.lampCommandSend h) s = .next s) ∧
    ((s.tag h).inFlight ≠ none →
      exec (.lampCommandComplete h) s = .next (withTag h (lampEnded (s.tag h)) s)) ∧
    ((s.tag h).lampTimer ≠ none →
      exec (.lampCommandDropped h) s
        = .next (faultCounted h (withTag h (lampEnded (s.tag h)) s)))

/-! ### End processing (R17 to R20) -/

namespace Sys2Proof.Machine

/-- R64: a component raised by an own credit. -/
def credited (m : CompMap) (own vol : Nat) : CompMap :=
  CompMap.put m own (min 4294967295 (CompMap.get m own + vol))

/-- R17, R20: the record of a dispense that ends in CLOSING. -/
def recordOf (h : HoseId) (d : Dispense) (e : EndReason) (s : State) : DispenseRecord :=
  let m := s.meter h
  ⟨h, d.vehicle, d.cls, d.holdNumber, d.holdShift, d.tank, (s.tank d.tank).period, d.granted, m.g, m.s,
    m.t10.getD 150, d.engineHours, d.startTick, s.tick, e,
    { d.flags with
      overrun := d.flags.overrun || decide (d.granted + max 500 (d.granted / 100) < m.s) }⟩

/-- R76, R77: a vehicle's record after the credits of a dispense. -/
def creditedRecord (own sigma holdShift vol : Nat) (r x : VehicleRecord) : Prop :=
  (vol = 0 → x.serviceMap = r.serviceMap) ∧
  (vol ≠ 0 → x.serviceMap = credited r.serviceMap own vol) ∧
  (vol = 0 ∨ holdShift ≠ sigma → x.shift = r.shift ∧ x.shiftMap = r.shiftMap) ∧
  (vol ≠ 0 → holdShift = sigma → x.shift = sigma ∧
    x.shiftMap = if r.shift = sigma then credited r.shiftMap own vol else credited [] own vol) ∧
  { x with
    shift := r.shift, shiftMap := r.shiftMap, serviceMap := r.serviceMap, status := r.status
    touched := r.touched } = r

/-- R175: the size bucket of a dispense. -/
def bucketOf (vol : Nat) : Nat :=
  ([5000, 20000, 50000, 100000, 200000].filter fun bound => decide (bound ≤ vol)).length

/-- R175: one more dispense in the counters of its class, and no other class counter. -/
def dispenseCounted (cls : ClassId) (vol : Nat) (s u : State) : Prop :=
  let before := s.classCounters.get cls
  let counted := u.classCounters.get cls
  (∀ i : Fin 6, counted.buckets.get i
    = if i.val = bucketOf vol then (before.buckets.get i).add 1 else before.buckets.get i) ∧
  counted.volume = before.volume.add vol ∧ counted.refusals = before.refusals ∧
  ∀ c, c ≠ cls → u.classCounters.get c = s.classCounters.get c

/-- R154, R78, R105: the ISSUE of a dispense, from a vehicle's record and a tank after the credits. -/
def issueOf (h : HoseId) (d : Dispense) (vol : Nat) (x : VehicleRecord) (k : Tank) (s : State) : Frame :=
  ⟨2, s.ownNumber, false, 5, IssueNotice.payload
    ⟨d.vehicle, if x.settled then some x.cls else none, h, d.holdNumber, x.shift,
      CompMap.get x.shiftMap s.ownNumber, x.generation, CompMap.get x.serviceMap s.ownNumber, d.tank,
      k.period, CompMap.get k.issueMap s.ownNumber, x.latestHours, vol⟩⟩

/-- R18: an ISSUE offered to the ports: queued where a routine entry is free, owed where none is. -/
def issueOffered (h : HoseId) (f : Frame) (s t : State) : Prop :=
  ∀ p : PortId,
    (takesNotices s p → 0 < freeRoutine s p →
      (t.hose h).pendingIssue.mem p = false ∧
      (t.port p).routine = (s.port p).routine ++ [⟨f, .ordinary, none⟩] ∧
      (t.port p).urgent = (s.port p).urgent ∧ samePortBut s t p) ∧
    (takesNotices s p → freeRoutine s p = 0 →
      (t.hose h).pendingIssue.mem p = true ∧ t.port p = s.port p) ∧
    (¬takesNotices s p → (t.hose h).pendingIssue.mem p = false ∧ t.port p = s.port p)

end Sys2Proof.Machine

/-- The end of the after-flow: ENDED and end processing: the record, the credits to the vehicle and the tank,
the own hold removed, the counts, the late-volume period and the ISSUE. A hose whose nozzle is hung up goes on
to IDLE, or to DISABLED with the out-of-service mark, unless it owes a port its ISSUE. The stages are settled
last (log 11). A port whose last routine entry a hose waits for has none free (log 13). That a change of the status
is reported before the hose's second HOSE_STATE is the model's order (log 12), and that the out-of-service mark stays
after the hose has left ENDED its reading (log 30). -/
def Obligations.AfterFlowEndsTheDispense : Prop :=
  ∀ (h : HoseId) (s : State) (d : Dispense) (e : EndReason) (r : VehicleRecord),
    (s.hose h).state = .closing → (s.hose h).timers.afterFlow ≠ none →
    (s.hose h).dispense = some d → d.endReason = some e →
    (s.hose h).pendingIssue = ⟨false, false⟩ → findVehicle d.vehicle s = some r →
    let vol := (s.meter h).s
    let record := recordOf h d e s
    let stays := (s.hose h).lifted = true ∨ ∃ p, takesNotices s p ∧ freeRoutine s p = 0
    let after : HoseState := if (s.hose h).outOfService then .disabled else .idle
    let told := posted h.val (.dispenseEnd record) (posted h.val (.hoseState .ended .closing) s)
    ∃ u x, exec (.afterFlowExpiry h) s = .next (settleTanks none s u) ∧
      (stays → (u.hose h).state = .ended) ∧ (¬stays → (u.hose h).state = after) ∧
      outputsAre (u.hose h) false false false ∧ (u.hose h).lifted = (s.hose h).lifted ∧
      (u.hose h).dispense = none ∧ (u.hose h).requested = none ∧ (u.hose h).last = some record ∧
      (u.hose h).timers.afterFlow = none ∧ (u.hose h).outOfService = (s.hose h).outOfService ∧
      (u.hose h).lateVolume = 0 ∧ (u.hose h).leakReported = false ∧ lampAsked h .off u ∧
      (u.meter h).lateActive = true ∧ (u.meter h).latePulses = 0 ∧ (u.meter h).carried = 0 ∧
      (u.meter h).c = 0 ∧ (u.meter h).s = 0 ∧ (u.meter h).held = (s.meter h).held ∧
      findVehicle d.vehicle u = some x ∧ creditedRecord s.ownNumber s.sigma d.holdShift vol r x ∧
      otherVehiclesKept d.vehicle s u ∧
      u.tank d.tank =
        { s.tank d.tank with
          issueMap := if vol = 0 then (s.tank d.tank).issueMap
            else credited (s.tank d.tank).issueMap s.ownNumber vol } ∧
      (∀ k, k ≠ d.tank → u.tank k = s.tank k) ∧
      u.holds = s.holds.filter (fun a => decide (¬(a.station = s.ownNumber ∧ a.hose = h))) ∧
      dispenseCounted d.cls vol s u ∧
      statusDerived s x ∧
      (stays → u.console = (statusTold r.status x told).console) ∧
      (¬stays → u.console
        = (posted h.val (.hoseState after .ended) (statusTold r.status x told)).console) ∧
      issueOffered h (issueOf h d vol x (u.tank d.tank) s) s u ∧
      (∀ k, k ≠ h → u.hose k = s.hose k ∧ u.tag k = s.tag k ∧ u.meter k = s.meter k)

/-- A freed routine entry of a port takes the ISSUE of the lowest hose that owes one there; the hose then
leaves ENDED or REFUSED if its nozzle is hung up and it owes no other port. -/
def Obligations.FreedEntryTakesAnOwedIssue : Prop :=
  ∀ (p : PortId) (h : HoseId) (f : Frame) (s : State),
    (s.hose h).pendingIssue.mem p = true → (∀ k, k < h → (s.hose k).pendingIssue.mem p = false) →
    (s.hose h).issue = some f → takesNotices s p → (s.port p).routine.length < 32 →
    ∃ t, exec (.issueQueued p) s = .next t ∧
      (t.port p).routine = (s.port p).routine ++ [⟨f, .ordinary, none⟩] ∧
      (t.port p).urgent = (s.port p).urgent ∧ samePortBut s t p ∧
      (∀ q, q ≠ p → t.port q = s.port q) ∧
      (t.hose h).pendingIssue = (s.hose h).pendingIssue.put p false ∧
      ((s.hose h).lifted = true ∨ (s.hose h).pendingIssue.put p false ≠ ⟨false, false⟩ →
        t.hose h = { s.hose h with pendingIssue := (s.hose h).pendingIssue.put p false } ∧
        t.tag h = s.tag h ∧ t.console = s.console) ∧
      ((s.hose h).lifted = false → (s.hose h).pendingIssue.put p false = ⟨false, false⟩ →
        (s.hose h).state = .ended ∨ (s.hose h).state = .refused →
        enters h (if (s.hose h).state = .ended ∧ (s.hose h).outOfService then .disabled else .idle)
          s t ∧ lampAsked h .off t) ∧
      onlyHose h s { t with portA := s.portA, portB := s.portB }

/-! ### Metering (R30 to R45) -/

namespace Sys2Proof.Machine

/-- Section 2.3: the phase of the two channels, high being `true`. -/
def channelPhase (chA chB : Bool) : MeterPhase :=
  if chA then (if chB then .p2 else .p1) else (if chB then .p3 else .p0)

/-- R31: the change of the net count at the boundary of P0 and P1. -/
def netChange (old new : MeterPhase) : Int :=
  if old = .p0 ∧ new = .p1 then 1 else if old = .p1 ∧ new = .p0 then -1 else 0

/-- R31: a rising edge of channel A: from P0 or P3 to P1 or P2. -/
def riseCount (old new : MeterPhase) : Nat :=
  if (old = .p0 ∨ old = .p3) ∧ (new = .p1 ∨ new = .p2) then 1 else 0

/-- R31: both channels change between opposite phases. -/
def opposite (old new : MeterPhase) : Bool :=
  decide ((old = .p0 ∧ new = .p2) ∨ (old = .p2 ∧ new = .p0) ∨ (old = .p1 ∧ new = .p3)
    ∨ (old = .p3 ∧ new = .p1))

end Sys2Proof.Machine

/-- A change of the meter channels: the counts of the window and its marks, each count held at 32,767, the
saturation mark set by the pulse that would pass the limit (log 15); a hose that does not run only follows its
inputs. -/
def Obligations.PhaseChangesAreCountedUpToTheLimit : Prop :=
  ∀ (h : HoseId) (chA chB : Bool) (s : State),
    let m := s.meter h
    let new := channelPhase chA chB
    let err := opposite m.phase new
    let k := s.hoseCounters.get h
    let counted : State :=
      if err && !m.phaseError then
        { s with hoseCounters := s.hoseCounters.set h { k with phaseErrors := k.phaseErrors.add 1 } }
      else s
    let net := m.net + netChange m.phase new
    let rise := m.aRise + riseCount m.phase new
    (s.started = false ∨ (s.hoseCfg h).fitted = false →
      exec (.phaseChange h chA chB) s = .next (withMeter h { m with phase := new } s)) ∧
    (s.started = true → (s.hoseCfg h).fitted = true →
      (m.saturated = true → exec (.phaseChange h chA chB) s = .next
        (withMeter h { m with phase := new, phaseError := m.phaseError || err } counted)) ∧
      (m.saturated = false → exec (.phaseChange h chA chB) s = .next (withMeter h
        { m with
          phase := new, phaseError := m.phaseError || err
          net := if 32767 < net.natAbs then m.net else net
          aRise := if 32767 < rise then m.aRise else rise
          saturated := decide (32767 < net.natAbs ∨ 32767 < rise) } counted)))

namespace Sys2Proof.Machine

/-- R35: the correction of the band of a count's raw flow. -/
def correctionOf (c : HoseCfg) (pw : Int) : Int :=
  let fr := pw.natAbs * 24000 / c.kh
  if fr < c.b1 then c.c0 else if fr < c.b2 then c.c1 else if fr < c.b3 then c.c2 else c.c3

/-- R36: the sum of C and the corrected credit, before the floor at 0. -/
def creditSum (c : HoseCfg) (m : Meter) : Int :=
  m.c + countOf m * (10000 + correctionOf c (countOf m))

/-- R41: the factor in ppm: a tenth of α × (T10 − 150) to the nearest, a half away from zero. -/
def factorOf (alpha : Nat) (t : Int) : Int :=
  let x := (alpha : Int) * (t - 150)
  1000000 - x.sign * ((x.natAbs + 5) / 10 : Nat)

/-- R39, R40: the invalid run after a sample. -/
def invalidAfter (sample : Int) (m : Meter) : Nat :=
  if -200 ≤ sample ∧ sample ≤ 700 then 0 else min 120 (m.invalidRun + 1)

/-- R40: fallback after a sample. -/
def fallbackAfter (sample : Int) (m : Meter) : Bool :=
  if -200 ≤ sample ∧ sample ≤ 700 then false
  else m.fallback || decide (invalidAfter sample m = 120)

/-- R39, R40: the T10 of the window. -/
def windowTemp (sample : Int) (m : Meter) : Int :=
  if -200 ≤ sample ∧ sample ≤ 700 then sample
  else if fallbackAfter sample m then 150 else m.held.getD 150

/-- R32: the phase-error run after a window. -/
def errorRunAfter (m : Meter) : Nat := if m.phaseError then min 4 (m.errorRun + 1) else 0

/-- R38: the reverse total after a window. -/
def reverseAfter (c : HoseCfg) (m : Meter) : Nat :=
  m.reverseTotal + (m.prevG - (creditSum c m).toNat / c.kh)

/-- R34: METER_FAULT is raised in this window. -/
def raisesFault (m : Meter) : Bool := !m.faultReported && decide (errorRunAfter m = 4)

/-- R38: METER_REVERSE is raised in this window. -/
def raisesReverse (c : HoseCfg) (m : Meter) : Bool :=
  !m.reverseReported && decide (200 < reverseAfter c m)

/-- R42: the accumulator after a window. -/
def accAfter (c : HoseCfg) (alpha : Nat) (sample : Int) (m : Meter) : Nat :=
  ((m.acc : Int) + (((creditSum c m).toNat / c.kh : Nat) - (m.prevG : Int))
    * factorOf alpha (windowTemp sample m)).toNat

/-- R42: S after a window. -/
def standardAfter (c : HoseCfg) (alpha : Nat) (sample : Int) (m : Meter) : Nat :=
  min 4294967295 (accAfter c alpha sample m / 1000000)

/-- α of the hose's tank. -/
def alphaOf (s : State) (h : HoseId) : Nat := (s.tankCfg (s.hoseCfg h).tank).alpha

end Sys2Proof.Machine

/-- A dispense window's arithmetic, from the counts to S. The stages are settled last. A window of HOLDING
that raises a fault ends the dispense and so clears the unit; it is stated with the endings. -/
def Obligations.DispenseWindowComputesTheVolumes : Prop :=
  ∀ (h : HoseId) (sample : Int) (s : State), s.started = true → (s.hoseCfg h).fitted = true →
    dispensesIn (s.hose h).state →
    let m := s.meter h
    let c := s.hoseCfg h
    let alpha := alphaOf s h
    let k := s.hoseCounters.get h
    ((s.hose h).state = .holding → raisesFault m = false ∧ raisesReverse c m = false) →
    ∃ u, exec (.flowWindowEnd h sample) s = .next (settleTanks none s u) ∧
      u.meter h =
        { m with
          net := 0, aRise := 0, phaseError := false, saturated := false, windowTimer := some 250
          c := (creditSum c m).toNat, g := (creditSum c m).toNat / c.kh
          prevG := (creditSum c m).toNat / c.kh, reverseTotal := reverseAfter c m
          held := if -200 ≤ sample ∧ sample ≤ 700 then some sample else m.held
          invalidRun := invalidAfter sample m, fallback := fallbackAfter sample m
          t10 := some (windowTemp sample m), acc := accAfter c alpha sample m
          s := standardAfter c alpha sample m, errorRun := errorRunAfter m
          faultReported := m.faultReported || decide (errorRunAfter m = 4)
          reverseReported := m.reverseReported || decide (200 < reverseAfter c m) } ∧
      u.hoseCounters.get h =
        { k with reverseDiscarded := k.reverseDiscarded.add ((-creditSum c m).toNat / c.kh) } ∧
      (∀ j, j ≠ h → u.hose j = s.hose j ∧ u.meter j = s.meter j ∧
        u.hoseCounters.get j = s.hoseCounters.get j) ∧
      { u with
        hoses := s.hoses, meters := s.meters, tags := s.tags, hoseCounters := s.hoseCounters
        console := s.console, alert := s.alert } = s

namespace Sys2Proof.Machine

/-- R43: the ending that a window raises; METER_FAULT before METER_REVERSE. -/
def raisedBy (c : HoseCfg) (m : Meter) : Option EndReason :=
  if raisesFault m then some .meterFault
  else if raisesReverse c m then some .meterReverse else none

/-- R33, R34, R40: the flags of a dispense after a window. -/
def flagsAfter (sample : Int) (m : Meter) (f : DispenseFlags) : DispenseFlags :=
  { f with
    meterWarn := f.meterWarn || m.phaseError || m.saturated
    uncompensated := f.uncompensated || fallbackAfter sample m }

end Sys2Proof.Machine

/-- A dispense window's report at the hose: a fault closes it out of service; without one the tests of R12
act on the new S in RUNNING and SLOWING, and pulses restart the no-flow timer there. TAG_LOST ends with the last hose in
PAUSED. -/
def Obligations.DispenseWindowMovesTheHose : Prop :=
  ∀ (h : HoseId) (sample : Int) (s : State) (d : Dispense), s.started = true →
    (s.hoseCfg h).fitted = true → (s.hose h).dispense = some d →
    let m := s.meter h
    let c := s.hoseCfg h
    let x := s.hose h
    let flags := flagsAfter sample m d.flags
    let vol := standardAfter c (alphaOf s h) sample m
    (∀ e, raisedBy c m = some e → x.state = .running ∨ x.state = .slowing ∨ x.state = .paused →
      ∃ u, exec (.flowWindowEnd h sample) s = .next (settleTanks none s u) ∧ enters h .closing s u ∧
        alertFollows s u ∧ (u.hose h).outOfService = true ∧ closingWith e c (u.hose h) ∧ issueOutputs (u.hose h) ∧
        (u.hose h).dispense = some { d with flags := flags, endReason := some e }) ∧
    (∀ e, raisedBy c m = some e → x.state = .closing →
      ∃ u, exec (.flowWindowEnd h sample) s = .next (settleTanks none s u) ∧
        u.hose h = { x with outOfService := true, dispense := some { d with flags := flags } } ∧
        u.alert = s.alert) ∧
    (∀ e, raisedBy c m = some e → x.state = .holding →
      ∃ u, exec (.flowWindowEnd h sample) s = .next (settleTanks none s u) ∧
        endedAtZero e d x (u.hose h) ∧ alertFollows s u ∧
        (x.lifted = true → (u.hose h).outOfService = true)) ∧
    (raisedBy c m = none → x.state = .holding ∨ x.state = .paused ∨ x.state = .closing →
      ∃ u, exec (.flowWindowEnd h sample) s = .next (settleTanks none s u) ∧
        u.hose h = { x with dispense := some { d with flags := flags } } ∧ u.console = s.console ∧
        u.alert = s.alert) ∧
    (raisedBy c m = none → x.state = .running ∨ x.state = .slowing →
      ∃ u, exec (.flowWindowEnd h sample) s = .next (settleTanks none s u) ∧
        (u.hose h).state = testedState c d.granted vol x.state ∧
        (testedState c d.granted vol x.state = x.state → u.hose h =
          { x with
            dispense := some { d with flags := flags }
            timers :=
              { x.timers with
                noFlow := if countOf m = 0 then x.timers.noFlow
                  else some (c.noFlowLimit * 1000) } } ∧ u.console = s.console ∧
          u.alert = s.alert) ∧
        (testedState c d.granted vol x.state ≠ x.state → issueOutputs (u.hose h) ∧ alertFollows s u ∧
          enters h (testedState c d.granted vol x.state) s u) ∧
        ((u.hose h).state = .closing → closingWith .preset c (u.hose h) ∧
          (u.hose h).outOfService = x.outOfService))

/-- A window outside a dispense: in a late-volume period its count enters the late pulses, and the late volume
reports a leak once above 50 cL; outside one it only takes the probe sample; a hose that does not run takes
no window. -/
def Obligations.WindowsOutsideADispenseWatchForLeaks : Prop :=
  ∀ (h : HoseId) (sample : Int) (s : State),
    let m := s.meter h
    let c := s.hoseCfg h
    let k := s.hoseCounters.get h
    let held : Option Int := if -200 ≤ sample ∧ sample ≤ 700 then some sample else m.held
    let cleared : Meter :=
      { m with
        net := 0, aRise := 0, phaseError := false, saturated := false, windowTimer := some 250
        held := held }
    (s.started = false ∨ c.fitted = false → exec (.flowWindowEnd h sample) s = .next s) ∧
    (s.started = true → c.fitted = true → ¬dispensesIn (s.hose h).state →
      (m.lateActive = false → exec (.flowWindowEnd h sample) s = .next (withMeter h cleared s)) ∧
      (m.lateActive = true →
        ∃ t, exec (.flowWindowEnd h sample) s = .next t ∧
          t.meter h = { cleared with latePulses := latePulsesAfter m } ∧
          t.hose h = { s.hose h with
            lateVolume := lateVolumeAfter c m
            leakReported := (s.hose h).leakReported || leakSeen h s } ∧
          t.hoseCounters.get h = { k with latePulses := k.latePulses.add (countOf m).toNat } ∧
          t.console = (leakTold h s).console ∧
          (∀ j, j ≠ h → t.meter j = s.meter j ∧ t.hose j = s.hose j ∧
            t.hoseCounters.get j = s.hoseCounters.get j) ∧
          { t with
            meters := s.meters, hoses := s.hoses, hoseCounters := s.hoseCounters
            console := s.console } = s))

/-! ### The console port (R163 to R176) -/

namespace Sys2Proof.Machine

/-- R189: counters in a result: each with its overflow flag. -/
def countersRead (cs : List Counter) : List Byte :=
  cs.flatMap fun c => byte4 c.value ++ [if c.overflow then 1 else 0]

/-- R190: a one-byte yes or no. -/
def boolByte (b : Bool) : List Byte := byte1 b.toNat

/-- R189: an optional item of `width` bytes after its presence byte; absent, all its bytes read 0. -/
def itemIf (mark width : Nat) (x : Option (List Byte)) : List Byte :=
  match x with
  | some bytes => byte1 mark ++ bytes
  | none => List.replicate (width + 1) 0

/-- R189: a component map: an entry count and the (station, cL) pairs. -/
def mapRead (m : CompMap) : List Byte :=
  byte1 m.length ++ m.flatMap fun e => byte1 e.1 ++ byte4 e.2

/-- R191: the 39 bytes of a dispense record. -/
def recordLayout (r : DispenseRecord) : List Byte :=
  byte1 r.hose.val ++ byte2 r.vehicle ++ byte1 r.cls.val ++ byte1 r.holdNumber ++ byte2 r.holdShift
    ++ byte1 r.tank.val ++ byte2 r.tankPeriod ++ byte4 r.granted ++ byte4 r.gross ++ byte4 r.standard
    ++ signed2 r.finalTemp ++ itemIf 1 4 (r.engineHours.map byte4) ++ byte4 r.startTick
    ++ byte4 r.endTick ++ endReasonCode r.endReason ++ flagsCode r.flags

/-- R191: the kind and the detail of an event. -/
def detailLayout (d : EventDetail) : Nat × List Byte :=
  match d with
  | .dispenseEnd r => (1, recordLayout r)
  | .refusal r => (2, refusalCode r)
  | .hoseState new left => (3, hoseStateCode new ++ hoseStateCode left)
  | .tagFault => (4, [])
  | .valveLeak vol => (5, byte4 vol)
  | .serviceStatus new prev p => (6, statusCode new ++ statusCode prev ++ byte2 p)
  | .hoursSuspect reading latest => (7, byte4 reading ++ byte4 latest)
  | .stageChange new prev e => (8, stageCode new ++ stageCode prev ++ itemIf 1 4 (e.map signed4))
  | .variance v limit flag => (9, signed4 v ++ byte4 limit ++ boolByte flag)
  | .shiftChange new prev origin => (10, byte2 new ++ byte2 prev ++ byte1 origin)
  | .lineState new left cause => (11, portStateCode new ++ portStateCode left ++ faultCode cause)
  | .duplicateStation kind => (12, byte1 kind.toNat)
  | .tableFull => (13, [])
  | .eventsLost n => (14, byte2 n)

/-- R125, R169, R190: a port in Read Station. -/
def portLayout (x : Port) : List Byte :=
  portStateCode x.state ++ faultCode x.cause ++ byte1 x.failCount ++ boolByte x.messageLost
    ++ byte1 x.urgent.length ++ byte1 x.routine.length ++ byte1 x.fifo.length
    ++ byte1 (x.routine.filter fun e => decide (e.mark = .refresh ∨ e.mark = .relay)).length

/-- R116, R189: a hold list entry. -/
def holdLayout (e : HoldEntry) : List Byte :=
  byte1 e.station ++ byte1 e.hose.val ++ byte2 e.vehicle ++ byte2 e.shift ++ byte1 e.tank.val
    ++ byte4 e.preset ++ byte1 e.number ++ byte2 e.age

/-- R169, R190: the bytes of Read Station, at a station that is isolated or not. -/
def stationLayout (iso : Bool) (s : State) : List Byte :=
  boolByte s.started ++ byte1 (s.cfg.station.number.getD 0) ++ byte4 s.tick ++ byte2 s.sigma ++ boolByte iso
    ++ byte1 s.holdCounter ++ byte2 s.vehicles.length ++ byte1 s.console.events.length
    ++ byte2 s.console.eventsLost ++ byte2 (s.walker.position.getD 0) ++ boolByte s.walker.fast.isSome
    ++ portLayout s.portA ++ portLayout s.portB ++ byte1 s.holds.length ++ s.holds.flatMap holdLayout

/-- R170: an open dispense, with what its meter unit last used. -/
def dispenseLayout (d : Dispense) (m : Meter) : List Byte :=
  byte2 d.vehicle ++ byte1 d.cls.val ++ byte1 d.holdNumber ++ byte2 d.holdShift ++ byte1 d.tank.val
    ++ byte4 d.granted ++ byte4 d.startTick ++ itemIf 1 4 (d.engineHours.map byte4)
    ++ flagsCode d.flags ++ byte4 m.g ++ byte4 m.s ++ itemIf 1 2 (m.t10.map signed2)

/-- R170, R190: the bytes of Read Hose. -/
def hoseLayout (h : HoseId) (s : State) : List Byte :=
  let x := s.hose h
  boolByte (s.hoseCfg h).fitted ++ hoseStateCode x.state ++ boolByte x.lifted
    ++ itemIf 1 4 (x.requested.map byte4)
    ++ itemIf 1 32 (x.dispense.map fun d => dispenseLayout d (s.meter h)) ++ boolByte x.outOfService
    ++ byte1 (x.pendingIssue.a.toNat + 2 * x.pendingIssue.b.toNat) ++ byte4 x.lateVolume
    ++ lampCode (s.tag h).lastLamp ++ itemIf 1 39 (x.last.map recordLayout)

/-- R171, R62: the bytes of Read Vehicle. -/
def vehicleLayout (s : State) (r : VehicleRecord) : List Byte :=
  byte2 r.vehicle ++ byte1 r.cls.val ++ boolByte r.settled ++ byte2 r.shift ++ mapRead r.shiftMap
    ++ byte2 r.generation ++ itemIf 2 4 (r.hoursAtService.map byte4) ++ mapRead r.serviceMap
    ++ itemIf 4 4 (r.latestHours.map byte4) ++ itemIf 1 4 (r.pendingHours.map byte4)
    ++ statusCode r.status ++ originCode r.origin ++ byte4 r.touched
    ++ byte4 (if r.shift = s.sigma then CompMap.sum r.shiftMap else 0)
    ++ byte4 (CompMap.sum r.serviceMap) ++ itemIf 1 4 ((hoursSince r).map byte4)
    ++ byte2 (perMille (s.classCfg r.cls) r)

/-- R190: a gauge. -/
def gaugeLayout (g : Gauge) : List Byte :=
  byte2 g.count ++ byte1 g.origin ++ byte4 g.volume ++ byte4 g.issuedAt ++ byte4 g.deliveredAt

/-- R171, R91: the bytes of Read Tank. -/
def tankLayout (k : TankId) (s : State) : List Byte :=
  let x := s.tank k
  byte2 x.period ++ byte4 x.opening ++ boolByte x.openingPending ++ mapRead x.issueMap
    ++ mapRead x.deliveryMap ++ itemIf 16 15 (x.gauge.map gaugeLayout)
    ++ itemIf 1 4 (x.variance.map signed4) ++ boolByte x.varianceFlag ++ stageCode x.stage
    ++ signed4 (book x) ++ itemIf 1 4 ((gaugeEstimate x).map signed4) ++ byte4 (heldAmount s k)
    ++ itemIf 1 4 ((effectiveStock s k).map signed4)

/-- R183, R93: the fields of several bytes, most significant byte first; a signed volume is held at the limits
of four bytes. -/
def fieldsAreBigEndian : Prop :=
  (∀ n, n ≤ 4294967295 → byte4 n = [16777216, 65536, 256, 1].map fun k => BitVec.ofNat 8 (n / k)) ∧
  (∀ n, byte2 n = [256, 1].map fun k => BitVec.ofNat 8 (n / k)) ∧
  (∀ x : Int, -32768 ≤ x → x ≤ 32767 → signed2 x = byte2 (x % 65536).toNat) ∧
  ∀ x : Int,
    (-2147483648 ≤ x → x ≤ 2147483647 → signed4 x = byte4 (x % 4294967296).toNat) ∧
    (x < -2147483648 → signed4 x = byte4 2147483648) ∧ (2147483647 < x → signed4 x = byte4 2147483647)

/-- R163: the status byte: READY, DIR, BUSY and EVT in bits 7 to 4. -/
def statusNow (k : Console) : Byte :=
  BitVec.ofNat 8 ((if k.phase = .execution then 0 else 128) + (if k.phase = .result then 64 else 0)
    + (if k.phase = .execution ∨ (k.phase = .command ∧ k.command.isSome) then 32 else 0)
    + (if k.events = [] then 0 else 16))

/-- R183: the bits of a byte, most significant first. -/
def bitsHigh (b : Byte) : List Bool := [7, 6, 5, 4, 3, 2, 1, 0].map b.getLsbD

/-- R163: an access has shifted the status byte out. -/
def accessed (s : State) : State :=
  { s with console := { s.console with misoStatus := statusNow s.console } }

/-- R166: a result abandoned: the port is in COMMAND, its result gone. -/
def abandoned (s : State) : State :=
  { s with console := { s.console with
      phase := .command, command := none, result := [], readPos := 0, codeRead := true
      intLine := !s.console.events.isEmpty } }

/-- R188: the command that a code and its parameter bytes spell. -/
def spells (coils : Quad CoilSense) (code : Byte) (ps : List Byte) : Option Instr :=
  match code.toNat, ps with
  | 0x01, [i, a, b, c, d] => some (.setStation i (a ++ b ++ c ++ d))
  | 0x02, [n, i, a, b, c, d] => some (.setClass n i (a ++ b ++ c ++ d))
  | 0x03, [n, i, a, b, c, d] => some (.setHose n i (a ++ b ++ c ++ d))
  | 0x04, [n, i, a, b, c, d] => some (.setTank n i (a ++ b ++ c ++ d))
  | 0x05, [] => some .start
  | 0x10, [] => some .restart
  | 0x11, [a, b, c] => some (.enrolVehicle (a ++ b) c)
  | 0x12, [a, b] => some (.retireVehicle (a ++ b))
  | 0x13, [h, a, b] => some (.setPreset h (a ++ b))
  | 0x14, [h, a, b] => some (.manualAuthorise h (a ++ b) coils)
  | 0x15, [h] => some (.stopHose h)
  | 0x16, [h] => some (.returnHose h)
  | 0x17, [] => some .openShift
  | 0x18, [a, b, m, w, x, y, z] => some (.recordService (a ++ b) m (w ++ x ++ y ++ z))
  | 0x19, [k, a, b, c, d] => some (.recordDelivery k (a ++ b ++ c ++ d))
  | 0x1A, [k, a, b, c, d] => some (.reopenTank k (a ++ b ++ c ++ d))
  | 0x1B, [k, a, b, c, d] => some (.reportGauge k (a ++ b ++ c ++ d))
  | 0x1C, [n] => some (.soundAlert n)
  | 0x20, [] => some .readStation
  | 0x21, [h] => some (.readHose h)
  | 0x22, [a, b] => some (.readVehicle (a ++ b))
  | 0x23, [k] => some (.readTank k)
  | 0x24, [g] => some (.readCounters g)
  | 0x25, [] => some .fetchEvent
  | _, _ => none

end Sys2Proof.Machine

/-- The reads: each completes with the bytes of its layout and changes nothing else; Read Counters clears the group
that it reads, and with a port's group its message-lost flag. What the bytes of a field are stands beside them.
The width of a volume that no field can hold is left open (log 17). -/
def Obligations.ReadsReportTheirObjects : Prop :=
  fieldsAreBigEndian ∧ ∀ s : State,
    (∀ iso : Bool, (iso = true ↔ s.started = true ∧ cutOffFromSite s) →
      exec .readStation s = .next (completed 0x01 (stationLayout iso s) s)) ∧
    (∀ n : Byte, 3 < n.toNat →
      exec (.readHose n) s = .next (completed 0x03 [] s) ∧
      exec (.readTank n) s = .next (completed 0x03 [] s)) ∧
    (∀ h : HoseId,
      exec (.readHose (BitVec.ofNat 8 h.val)) s = .next (completed 0x01 (hoseLayout h s) s) ∧
      exec (.readTank (BitVec.ofNat 8 h.val)) s = .next (completed 0x01 (tankLayout h s) s)) ∧
    (∀ v : Half,
      (¬vehicleNumber v → exec (.readVehicle v) s = .next (completed 0x03 [] s)) ∧
      (vehicleNumber v → findVehicle v.toNat s = none →
        exec (.readVehicle v) s = .next (completed 0x06 [] s)) ∧
      (∀ r, vehicleNumber v → findVehicle v.toNat s = some r →
        exec (.readVehicle v) s = .next (completed 0x01 (vehicleLayout s r) s))) ∧
    (∀ c : ClassId, let k := s.classCounters.get c
      exec (.readCounters (BitVec.ofNat 8 c.val)) s = .next (completed 0x01
        (countersRead (k.buckets.toList ++ [k.volume] ++ k.refusals.toList))
        { s with classCounters := s.classCounters.set c ClassCounters.zero })) ∧
    (∀ p : PortId, let k := (s.port p).counters
      exec (.readCounters (if p = .a then 8 else 9)) s = .next (completed 0x01
        (countersRead [k.framesSent, k.framesReceived, k.checkErrors, k.fifoLost, k.relayed,
          k.relayDropped, k.tableFullDrops, k.faultDiscards])
        (withPort p { s.port p with counters := PortCounters.zero, messageLost := false } s))) ∧
    (∀ h : HoseId, let k := s.hoseCounters.get h
      exec (.readCounters (BitVec.ofNat 8 (10 + h.val))) s = .next (completed 0x01
        (countersRead [k.phaseErrors, k.latePulses, k.reverseDiscarded, k.tagErrors, k.tagFaults])
        { s with hoseCounters := s.hoseCounters.set h HoseCounters.zero })) ∧
    exec (.readCounters 14) s = .next (completed 0x01 (countersRead [s.holdExpiries])
      { s with holdExpiries := ⟨0, false⟩ }) ∧
    ∀ n : Byte, 14 < n.toNat → exec (.readCounters n) s = .next (completed 0x03 [] s)

/-- Fetch Event takes the oldest event; the count of lost events takes the place freed. -/
def Obligations.FetchEventTakesTheOldestEvent : Prop :=
  ∀ s : State,
    (s.console.events = [] → exec .fetchEvent s = .next (completed 0x06 [] s)) ∧
    ∀ (e : Event) (rest : List Event), s.console.events = e :: rest →
      let detail := detailLayout e.detail
      let bytes :=
        byte1 detail.1 ++ byte4 e.tick ++ byte2 e.subject ++ byte1 detail.2.length ++ detail.2
      (s.console.eventsLost = 0 → exec .fetchEvent s = .next (completed 0x01 bytes
        { s with console := { s.console with events := rest } })) ∧
      (s.console.eventsLost ≠ 0 → exec .fetchEvent s = .next (completed 0x01 bytes
        { s with console := { s.console with
            events := rest ++ [⟨s.tick, 0, .eventsLost s.console.eventsLost⟩], eventsLost := 0 } }))

/-- R183, R188: the bits of a whole data write, each byte most significant bit first. -/
def writeBits (b : Byte) : List Bool := bitsHigh 0x02 ++ bitsHigh b

/-- A data write, as the bits that the host shifts in: the code and the parameter bytes are collected; the last
one due runs the command that they spell; a code that names none completes BAD_COMMAND; a byte in RESULT
abandons the result first. -/
def Obligations.DataWriteCollectsAndRunsACommand : Prop :=
  ∀ (b : Byte) (coils : Quad CoilSense) (s : State),
    let k := (accessed s).console
    let command := Instr.dataWrite (writeBits b) coils
    (s.console.phase = .execution → exec command s = .next (accessed s)) ∧
    (s.console.phase = .command → s.console.command = none →
      (paramBytes b = none → exec command s = .next (completed 0x02 [] (accessed s))) ∧
      (∀ n, paramBytes b = some n → 0 < n → exec command s
        = .next { s with console := { k with command := some ⟨b, []⟩ } }) ∧
      (∀ c, spells coils b [] = some c → exec command s = exec c (accessed s))) ∧
    (∀ (code : Byte) (ps : List Byte), s.console.phase = .command →
      s.console.command = some ⟨code, ps⟩ →
      (∀ n, paramBytes code = some n → ps.length + 1 < n → exec command s
        = .next { s with console := { k with command := some ⟨code, ps ++ [b]⟩ } }) ∧
      (∀ c, spells coils code (ps ++ [b]) = some c → exec command s = exec c (accessed s))) ∧
    (s.console.phase = .result →
      (paramBytes b = none → exec command s = .next (completed 0x02 [] (accessed s))) ∧
      (∀ n, paramBytes b = some n → 0 < n → exec command s
        = .next { s with console := { (abandoned (accessed s)).console with
            command := some ⟨b, []⟩ } }) ∧
      (∀ c, spells coils b [] = some c → exec command s = exec c (abandoned (accessed s)))) ∧
    (paramBytes b = none → exec (.badCommand b) s = .next (completed 0x02 [] s))

/-- Accesses of every other kind: in RESULT a data read takes the next byte of the result, the completion code
first, and COMMAND follows the last byte; in the other phases it takes a zero byte. An access with any access byte
but the two of a data access, or one that ends before its data byte is complete, shifts the status byte out and
changes nothing else; one that ends before its access byte is complete changes nothing. These accesses are forms
of DATA_WRITE, whose operand is the host's bits (log 5). -/
def Obligations.AccessesReadTheResultAndTheStatus : Prop :=
  ∀ (mosi : List Bool) (coils : Quad CoilSense) (s : State),
    let k := (accessed s).console
    let command := Instr.dataWrite mosi coils
    let isRead := 16 ≤ mosi.length ∧ mosi.take 8 = bitsHigh 0x03
    let isWrite := 16 ≤ mosi.length ∧ mosi.take 8 = bitsHigh 0x02
    (s.console.phase ≠ .result →
      exec .dataRead s = .next { s with console := { k with misoData := 0 } }) ∧
    (s.console.phase = .result →
      let x : Console := { k with
        misoData := s.console.result.getD s.console.readPos 0, readPos := s.console.readPos + 1
        codeRead := true, command := none, intLine := !s.console.events.isEmpty }
      (s.console.readPos + 1 < s.console.result.length →
        exec .dataRead s = .next { s with console := x }) ∧
      (s.console.result.length ≤ s.console.readPos + 1 →
        exec .dataRead s = .next { s with console := { x with phase := .command } })) ∧
    (isRead → exec command s = exec .dataRead s) ∧
    (∀ b : Byte, mosi.take 16 = writeBits b →
      exec command s = exec (.dataWrite (writeBits b) coils) s) ∧
    (8 ≤ mosi.length → ¬isRead → ¬isWrite → exec command s = .next (accessed s)) ∧
    (mosi.length < 8 → exec command s = .next s)

/-! ### The tag links (R50 to R57, R83 to R85) -/

namespace Sys2Proof.Machine

/-- R49, R50, R51: a reader's bytes can reach the link of a hose: the hose runs, its mode enables the reader, and
the line is in OPEN, or in HELD for a hold that the byte's start bit came before (log 22). -/
def hears (h : HoseId) (s : State) : Prop :=
  s.started = true ∧ (s.hoseCfg h).fitted = true ∧ (s.tag h).mode ≠ .quiet ∧
    ((s.tag h).line = .opened ∨ (s.tag h).line = .held)

/-- R49, R50: a link after a message has ended, with data high. -/
def emptied (x : TagLink) : TagLink :=
  settled { x with message := [], gapTimer := none, leftover := .none, dataLow := false }

/-- R50: a good byte: a low start bit, a high stop bit, and an odd number of ones in its data and its parity. -/
abbrev soundByte (x : TagByte) : Prop :=
  x.start = false ∧ x.stop = true ∧ (x.levels.toList ++ [x.parity]).count true % 2 = 1

/-- R183, R187: the byte that eight levels spell, the first the least significant. -/
def risingByte (l : List Bool) : Byte := BitVec.ofNat 8 (l.foldr (fun bit n => bit.toNat + 2 * n) 0)

/-- R50: a byte of a discarded message. -/
abbrev passes (x : TagByte) (t : TagLink) : Prop := t.leftover ≠ .none ∧ x.gapBefore = false

/-- R50: a gap before a byte has cut short the message in progress. -/
abbrev cutShort (x : TagByte) (t : TagLink) : Prop := x.gapBefore = true ∧ t.gapTimer ≠ none

/-- R53: the last three entries. -/
def lastThree (l : List TagEntry) : List TagEntry := (l.reverse.take 3).reverse

/-- R54: three entries of one identity that names a vehicle, with alternating toggles. -/
def runOf (i : Identity) (l : List TagEntry) : Prop :=
  (∃ t, l = [⟨i.vehicle, i.cls, t⟩, ⟨i.vehicle, i.cls, !t⟩, ⟨i.vehicle, i.cls, t⟩]) ∧
    i.vehicle ≠ 0 ∧ i.vehicle ≠ 65535

/-- R53, R56: the tag watch after an identity page. -/
def watchAfter (i : Identity) (x : TagLink) : Timer :=
  if x.mode = .watch ∧ x.accepted = some i then some 2000 else x.watchTimer

/-- R109: check 1 has left the record of a vehicle as `r`, and nothing else has changed. -/
def checkOne (v : Nat) (r : VehicleRecord) (s m : State) : Prop :=
  { m with vehicles := s.vehicles } = s ∧ findVehicle v m = some r ∧ otherVehiclesKept v s m

/-- The modes in which identity pages enter the tracker (R53). -/
def tracks (m : TagMode) : Prop := m = .seek ∨ m = .wait ∨ m = .watch ∨ m = .search

end Sys2Proof.Machine

/-- Identity pages: a page in QUIET or MANUAL is not used; a repeat is not entered; in WAIT and WATCH the
tracker alone takes the page and the accepted identity restarts the watch; in SEEK a consistent run sends a
lifted hose through CHECKING, whose check 1 finds, settles or creates the record, and whose evaluation reads the
status that the record then holds, the status being derived last (log 35); in SEARCH it returns the vehicle or, if
it is another, closes the dispense. A page is one command whose bytes continue the message held (log 23); what the
message leaves of the line is log 22, and that it leaves no bytes to come and data high logs 36 and 37. The coil level
is an operand (log 6); HOSE_STATE stands before REFUSAL, and SERVICE_STATUS after both (log 12); a VALVE_LEAK stands
before HOSE_STATE (log 38). TAG_LOST ends with the last hose in PAUSED. -/
def Obligations.IdentityPagesTrackAcceptAndReturnVehicles : Prop :=
  ∀ (h : HoseId) (v : Half) (cls : ClassId) (toggle : Bool) (coils : Quad CoilSense) (s : State),
    let command := Instr.identityPage h v cls toggle coils
    (¬hears h s ∨ ¬(s.tag h).message <+: identityBytes v cls toggle → exec command s = .next s) ∧
    (hears h s → (s.tag h).message <+: identityBytes v cls toggle →
    let i : Identity := ⟨v.toNat, cls⟩
    let e : TagEntry := ⟨v.toNat, cls, toggle⟩
    let x := s.tag h
    let watched : TagLink := { emptied x with watchTimer := watchAfter i x }
    let next := lastThree (x.tracker ++ [e])
    let fresh := x.tracker.getLast? ≠ some e
    (¬tracks x.mode → exec command s = .next (withTag h (emptied x) s)) ∧
    (tracks x.mode → ¬fresh → exec command s = .next (withTag h watched s)) ∧
    (x.mode = .wait ∨ x.mode = .watch → fresh →
      exec command s = .next (withTag h { watched with tracker := next } s)) ∧
    (x.mode = .seek ∨ x.mode = .search → fresh → ¬runOf i next →
      exec command s = .next (withTag h { watched with tracker := next } s)) ∧
    (x.mode = .seek → fresh → runOf i next → (s.hose h).state = .lifted →
      (findVehicle v.toNat s = none → 320 ≤ s.vehicles.length →
        ∃ t, exec command s = .next t ∧ refusedWith h .tableFull cls s t) ∧
      ∀ m r, recordMet .tag v.toNat (some cls) s r → checkOne v.toNat r s m →
        (∀ reason c, evaluate h v.toNat (some cls) m = .refuse reason c →
          ∃ w t, exec command s = .next t ∧
            refusedWith h reason c s { w with vehicles := s.vehicles } ∧ statusLast v.toNat r s w t) ∧
        (∀ c preset flags status,
          evaluate h v.toNat (some cls) m = .grant c preset flags status →
          ∃ w t, exec command s = .next (settleTanks none s t) ∧ statusLast v.toNat r s w t ∧
            ((∃ p, takesNotices s p) → grantedTo h v.toNat c preset flags status s w ∧
              (w.tag h).accepted = some i) ∧
            ((∀ p, ¬takesNotices s p) →
              grantedCutOff h v.toNat c preset flags status (coils.get h) s w ∧
              (coils.get h = .good → (w.hose h).state ≠ .closing →
                (w.tag h).accepted = some i)))) ∧
    (x.mode = .search → fresh → runOf i next → (s.hose h).state = .paused →
      (x.accepted ≠ some i → ∃ t, exec command s = .next t ∧ closes h .tagChanged s t) ∧
      (∀ d, x.accepted = some i → (s.hose h).dispense = some d →
        ∃ t, exec command s = .next t ∧
          (t.hose h).state = testedState (s.hoseCfg h) d.granted (s.meter h).s .running ∧
          issueOutputs (t.hose h) ∧ alertFollows s t ∧
          ((t.hose h).state ≠ .closing →
            (t.hose h).dispense = some d ∧ lampAsked h .green t ∧
            (t.hose h).timers =
              { (s.hose h).timers with
                tagReturn := none, noFlow := some ((s.hoseCfg h).noFlowLimit * 1000) } ∧
            (d.flags.manual = false → (t.tag h).mode = .watch ∧
              (t.tag h).watchTimer = some 2000 ∧ (t.tag h).accepted = some i)) ∧
          ((t.hose h).state = .closing → closingWith .preset (s.hoseCfg h) (t.hose h)) ∧
          onlyHose h s t)))

namespace Sys2Proof.Machine

/-- R55: an hours page is adopted: once, in WAIT, WATCH and SEARCH, with the toggle of the newest entry, which
is of the accepted identity. -/
def adoptable (toggle : Bool) (x : TagLink) : Prop :=
  (x.mode = .wait ∨ x.mode = .watch ∨ x.mode = .search) ∧ x.hoursAdopted = false ∧
    ∃ i, x.accepted = some i ∧ x.tracker.getLast? = some ⟨i.vehicle, i.cls, toggle⟩

/-- R83, R84: a reading that raises latest hours: there is none, or it is above by no more than the jump limit,
or it confirms a pending value. -/
def raisesHours (n : Nat) (r : VehicleRecord) : Prop :=
  r.latestHours = none ∨
    ∃ l, r.latestHours = some l ∧ l < n ∧
      (n ≤ l + 2000 ∨ ∃ q, r.pendingHours = some q ∧ q ≤ n + 10 ∧ n ≤ q + 10)

/-- R84: a reading that is suspect: above the jump limit, with no pending value that it confirms. -/
def suspectHours (n : Nat) (r : VehicleRecord) : Prop :=
  ∃ l, r.latestHours = some l ∧ l + 2000 < n ∧
    ∀ q, r.pendingHours = some q → ¬(q ≤ n + 10 ∧ n ≤ q + 10)

end Sys2Proof.Machine

/-- Hours pages: one that is not to be adopted is not used; one adopted enters the dispense's engine hours and
is given to the vehicle table as a reading. A page is one command whose bytes continue the message held (log 23),
and leaves no bytes to come and data high (logs 36 and 37). That a reading is also adopted by a record with a pending
value and no latest hours, which no rule leaves, is the model's choice (log 31). -/
def Obligations.HoursPagesAreAdoptedOnce : Prop :=
  ∀ (h : HoseId) (toggle : Bool) (hours : Word) (s : State),
    let command := Instr.hoursPage h toggle hours
    let n := hours.toNat
    (¬hears h s ∨ ¬(s.tag h).message <+: hoursBytes toggle hours ∨ 99999999 < n →
      exec command s = .next s) ∧
    (hears h s → (s.tag h).message <+: hoursBytes toggle hours → n ≤ 99999999 →
    (¬adoptable toggle (s.tag h) →
      exec command s = .next (withTag h (emptied (s.tag h)) s)) ∧
    ∀ d r, adoptable toggle (s.tag h) → (s.hose h).dispense = some d →
      findVehicle d.vehicle s = some r →
      ∃ t x, exec command s = .next t ∧
        t.tag h = { emptied (s.tag h) with hoursAdopted := true } ∧
        t.hose h = { s.hose h with dispense := some { d with engineHours := some n } } ∧
        findVehicle d.vehicle t = some x ∧
        (raisesHours n r → x.latestHours = some n ∧ x.pendingHours = none) ∧
        (suspectHours n r → x.latestHours = r.latestHours ∧ x.pendingHours = some n) ∧
        ((∃ l, r.latestHours = some l ∧ n ≤ l) →
          x.latestHours = r.latestHours ∧ x.pendingHours = r.pendingHours) ∧
        x.status = statusOf (s.classCfg r.cls) (perMille (s.classCfg r.cls) x) ∧
        (¬suspectHours n r → t.console = (statusTold r.status x s).console) ∧
        (∀ l, suspectHours n r → r.latestHours = some l →
          t.console = (statusTold r.status x (posted d.vehicle (.hoursSuspect n l) s)).console) ∧
        { x with
          latestHours := r.latestHours, pendingHours := r.pendingHours, status := r.status
          touched := r.touched } = r ∧
        otherVehiclesKept d.vehicle s t ∧ onlyHose h s { t with vehicles := s.vehicles })

namespace Sys2Proof.Machine

/-- R47, R50, R51: a message discarded: one error counted, and the link is `x`. -/
def messageDropped (h : HoseId) (x : TagLink) (s : State) : State :=
  let k := s.hoseCounters.get h
  withTag h x
    { s with hoseCounters := s.hoseCounters.set h { k with tagErrors := k.tagErrors.add 1 } }

/-- R50: bytes that begin with a page type. -/
def pageOf (m : List Byte) (len : Nat) : Prop :=
  (m.headD 0 = 0x31 ∧ len = 6) ∨ (m.headD 0 = 0x32 ∧ len = 7)

/-- R50, R187: a whole page, with its check byte and its fields in range. -/
def wholePage (m : List Byte) : Prop :=
  (∃ v cls toggle, m = identityBytes v cls toggle) ∨
    ∃ toggle hours, hours.toNat ≤ 99999999 ∧ m = hoursBytes toggle hours

/-- R50: what is still to come of a message of `len` bytes of which `n` have come. -/
def stillToCome (len n : Nat) : Leftover := if n < len then .bytes (len - n) else .none

/-- R50: what is still to come of a message discarded at its byte `x`, with `m` before it: the rest of the page
that a good first byte names, and else whatever comes before a gap (log 36). -/
def comingAfter (m : List Byte) (x : TagByte) : Leftover :=
  let first := m.headD (risingByte x.levels.toList)
  if m = [] ∧ ¬soundByte x then .toGap
  else if first = 0x31 then stillToCome 6 (m.length + 1)
  else if first = 0x32 then stillToCome 7 (m.length + 1)
  else .toGap

/-- R50: one byte of a discarded message has passed. -/
def onePassed (x : Leftover) : Leftover :=
  match x with
  | .bytes n => if n ≤ 1 then .none else .bytes (n - 1)
  | .toGap => .toGap
  | .none => .none

end Sys2Proof.Machine

/-- Tag bytes: a good byte that leaves its page incomplete is kept and the gap timer restarts; a bad byte, a
first byte that is no page type, and a complete message that fails its tests discard the message and count it
once, its further bytes passing uncounted (log 36); the gap timeout discards it too, as does a byte with a gap before
it, which then begins a message of its own, and so does an overrun, after which the line stays in HELD until data
rises, as any later byte shows (log 37). A byte that completes a valid page is a page command (log 23); which line
hears it is log 22; out of its case a command changes nothing (log 4). -/
def Obligations.TagBytesAreCollectedOrDiscarded : Prop :=
  ∀ (h : HoseId) (x : TagByte) (s : State),
    let cut := cutShort x (s.tag h)
    let t := if cut then emptied (s.tag h) else s.tag h
    let base := if cut then messageDropped h t s else s
    let m := t.message ++ [risingByte x.levels.toList]
    let received := exec (.tagByteReceived h x) s
    let discarded := exec (.tagMessageDiscard h x) s
    let fails := ¬soundByte x ∨ (∀ n, ¬pageOf m n) ∨
      (∃ n, pageOf m n ∧ n ≤ m.length ∧ ¬wholePage m)
    (¬hears h s → received = .next s ∧ discarded = .next s) ∧
    (hears h s → passes x (s.tag h) →
      let passed := withTag h { s.tag h with leftover := onePassed (s.tag h).leftover } s
      received = .next passed ∧ discarded = .next passed) ∧
    (hears h s → ¬passes x (s.tag h) → soundByte x → (∃ n, pageOf m n ∧ m.length < n) →
      received = .next (withTag h (settled { t with
        message := m, gapTimer := some 10, leftover := .none, dataLow := false }) base) ∧
      discarded = .next s) ∧
    (hears h s → ¬passes x (s.tag h) → fails →
      discarded
        = .next (messageDropped h { emptied t with leftover := comingAfter t.message x } base) ∧
      received = .next s) ∧
    (hears h s → ¬passes x (s.tag h) → soundByte x → wholePage m →
      received = .next s ∧ discarded = .next s) ∧
    ((s.tag h).gapTimer ≠ none →
      exec (.gapTimeout h) s = .next (messageDropped h (emptied (s.tag h)) s)) ∧
    ((s.tag h).gapTimer = none → exec (.gapTimeout h) s = .next s) ∧
    (s.started = true → (s.hoseCfg h).fitted = true → (s.tag h).line = .held →
      exec (.tagOverrun h) s = .next (messageDropped h
        { s.tag h with message := [], gapTimer := none, leftover := .none, dataLow := true } s)) ∧
    (s.started = false ∨ (s.hoseCfg h).fitted = false ∨ (s.tag h).line ≠ .held →
      exec (.tagOverrun h) s = .next s)

/-! ### The yard ports (R127 to R147) -/

namespace Sys2Proof.Machine

/-- R127: a port that transmits. -/
abbrev transmits (x : Port) : Prop := x.state = PortState.active ∨ x.state = PortState.silent

/-- R140, R141: a port as it was but for request-to-send and the stall timer, which follow its queues. -/
def portIs (p : PortId) (x : Port) (t : State) : Prop :=
  { t.port p with rts := x.rts, stallTimer := x.stallTimer } = x

/-- The command that begins a frame on a port, and the one that reports it sent. -/
def beginCommand (p : PortId) : Instr :=
  match p with
  | .a => .frameAttempt
  | .b => .portBFrameStart

/-- See `beginCommand`. -/
def sentCommand (p : PortId) (coils : Quad CoilSense) : Instr :=
  match p with
  | .a => .portAFrameComplete coils
  | .b => .portBFrameSent coils

/-- R129, R135: a port whose frame has been sent: the entry leaves its queue and is counted; on port A the
failure count returns to 0. -/
def portAfterSent (p : PortId) (d : Sending) (x : Port) : Port :=
  { x with
    sending := none, failCount := if p = .a then 0 else x.failCount
    urgent := if d.urgent then x.urgent.tail else x.urgent
    routine := if d.urgent then x.routine else x.routine.tail
    counters := { x.counters with framesSent := x.counters.framesSent.add 1 } }

/-- R129: a hose waits for an urgent entry of a port and has none reserved there. -/
def waitsFor (h : HoseId) (p : PortId) (s : State) : Prop :=
  (s.hose h).phase = .queueWait ∧ (s.hose h).waitPorts.mem p = true ∧
    (s.hose h).reserved.mem p = false

end Sys2Proof.Machine

/-- Frames: the head of the urgent queue, or with none there of the routine queue, begins; contention lost
leaves it at the head; sent, it leaves its queue, an entry freed is reserved by the lowest waiting hose, and
the hose that awaits it starts its settle window once it awaits no other port, or at an isolated station has its
valve coil checked at once. That a report of a frame sent with none in progress changes nothing is the model's
choice (log 4); when a reservation is made and a HOLD begins its wait is log 14. The coil level is an operand (log 6),
and the stages are settled once, after the coil check (log 11). -/
def Obligations.FramesBeginAndLeaveTheirQueues : Prop :=
  ∀ (p : PortId) (coils : Quad CoilSense) (s : State),
    let x := s.port p
    (transmits x → x.sending = none → (p = .b → x.cts = true) →
      (∀ e es, x.urgent = e :: es → exec (beginCommand p) s
        = .next (withPort p { x with sending := some ⟨true, e⟩ } s)) ∧
      (∀ e es, x.urgent = [] → x.routine = e :: es → exec (beginCommand p) s
        = .next (withPort p { x with sending := some ⟨false, e⟩ } s))) ∧
    (¬transmits x ∨ x.sending ≠ none ∨ (x.urgent = [] ∧ x.routine = []) ∨
        (p = .b ∧ x.cts = false) →
      exec (beginCommand p) s = .next s) ∧
    exec .contentionLost s = .next (withPort .a { s.portA with sending := none } s) ∧
    (x.sending = none → exec (sentCommand p coils) s = .next s) ∧
    (∀ d, x.sending = some d → d.entry.hold = none →
      ∃ t, exec (sentCommand p coils) s = .next t ∧ portIs p (portAfterSent p d x) t ∧
        (∀ q, q ≠ p → t.port q = s.port q) ∧
        (∀ h, { t.hose h with reserved := (s.hose h).reserved } = s.hose h ∧
          (¬waitsFor h p s → t.hose h = s.hose h) ∧
          (waitsFor h p s → (∀ k, k < h → ¬waitsFor k p s) → d.urgent = true →
            x.urgent.length - 1 + reservedCount s p < 8 → (t.hose h).reserved.mem p = true)) ∧
        { t with hoses := s.hoses, portA := s.portA, portB := s.portB } = s) ∧
    (∀ d h y, x.sending = some d → (s.hose h).dispense = some y →
      d.entry.hold = some (h, y.holdNumber) → (s.hose h).phase = .awaiting →
      (s.hose h).waitPorts.put p false = ⟨false, false⟩ → ¬cutOffFromSite s →
      ∃ t, exec (sentCommand p coils) s = .next t ∧ portIs p (portAfterSent p d x) t ∧
        t.hose h = { s.hose h with
          phase := .settle, waitPorts := ⟨false, false⟩
          timers := { (s.hose h).timers with settle := some s.cfg.station.settleWindow } }) ∧
    (∀ d h y, x.sending = some d → (s.hose h).dispense = some y →
      d.entry.hold = some (h, y.holdNumber) → (s.hose h).phase = .awaiting →
      ((s.hose h).waitPorts.put p false ≠ ⟨false, false⟩ →
        ∃ t, exec (sentCommand p coils) s = .next t ∧ portIs p (portAfterSent p d x) t ∧
          t.hose h = { s.hose h with waitPorts := (s.hose h).waitPorts.put p false }) ∧
      ((s.hose h).waitPorts.put p false = ⟨false, false⟩ → s.started = true → cutOffFromSite s →
        ∃ u, exec (sentCommand p coils) s = .next (settleTanks none s u) ∧
          coilChecked h (coils.get h) y (s.meter h).s (s.hoseCfg h) (s.hose h) u ∧
          (coils.get h = .good → portIs p (portAfterSent p d x) u)))

namespace Sys2Proof.Machine

/-- R143: port A in FAULT. -/
def faultedA (n : Nat) (x : Port) : Port :=
  { x with
    state := .fault, cause := some .transmit, silenceTimer := none, recoveryTimer := some 10000
    urgent := [], routine := [], sending := none, failCount := n }

/-- R143: port B in FAULT by a stall. -/
def faultedB (x : Port) : Port :=
  { x with
    state := .fault, cause := some .stall, silenceTimer := none, recoveryTimer := none
    urgent := [], routine := [], sending := none, rts := false, stallTimer := none }

/-- R143, step 3: no hose waits on, has reserved or owes anything to a port. -/
def clearOf (p : PortId) (t : State) : Prop :=
  ∀ h : HoseId, (t.hose h).waitPorts.mem p = false ∧ (t.hose h).reserved.mem p = false ∧
    (t.hose h).pendingIssue.mem p = false

/-- No hose has a HOLD or an ISSUE on its way that a FAULT could set free. -/
def nothingWaits (s : State) : Prop :=
  ∀ h : HoseId, (s.hose h).phase = .none ∧ (s.hose h).pendingIssue = ⟨false, false⟩ ∧
    ((s.hose h).lifted = true ∨ ((s.hose h).state ≠ .ended ∧ (s.hose h).state ≠ .refused))

/-- R143, step 3: a hose whose sets the port `p` leaves. -/
def withoutPort (p : PortId) (x : Hose) : Hose :=
  { x with
    waitPorts := x.waitPorts.put p false, reserved := x.reserved.put p false
    pendingIssue := x.pendingIssue.put p false }

/-- R115: a running station that no port connects once the port `p` is in FAULT. -/
def cutOffBy (p : PortId) (s : State) : Prop :=
  s.started = true ∧ ∀ q, q ≠ p → (s.portCfg q).configured = true →
    (s.port q).state = .silent ∨ (s.port q).state = .fault

/-- R8, R143: a hose in its queue wait has an entry on every port that it still waits for. -/
abbrev readyWithout (p : PortId) (x : Hose) : Prop :=
  x.phase = .queueWait ∧
    (x.waitPorts.mem (otherPort p) = true → x.reserved.mem (otherPort p) = true)

/-- R8, R9, R143: a hose in HOLDING whose HOLD has no port left to go on. -/
def awaitsNone (p : PortId) (x : Hose) : Prop :=
  x.state = .holding ∧ x.waitPorts.put p false = ⟨false, false⟩ ∧
    (x.phase = .awaiting ∨ readyWithout p x)

/-- R19, R22, R143: a hose in ENDED or REFUSED whose nozzle is hung up and that owes no other port its ISSUE. -/
abbrev leavesWithout (p : PortId) (x : Hose) : Prop :=
  (x.state = .ended ∨ x.state = .refused) ∧ x.phase = .none ∧ x.lifted = false ∧
    x.pendingIssue.put p false = ⟨false, false⟩

/-- R19, R22: the state for which a hose leaves ENDED or REFUSED. -/
def leftFor (x : Hose) : HoseState :=
  if x.state = .ended ∧ x.outOfService = true then .disabled else .idle

/-- R143, step 3: the hose `h`, as `x`, acts on its smaller sets, in `u`: one that is in neither a queue wait nor a
wait for transmission keeps all but the port, and leaves ENDED or REFUSED if nothing else keeps it; one that waits
for space or for a transmission on the other port goes on waiting or queues its HOLD there; one left with no port
begins its settle window, or at a station cut off has its coil checked. -/
def actsWithout (p : PortId) (coils : Quad CoilSense) (h : HoseId) (s u : State) : Prop :=
  let x := s.hose h
  let y := withoutPort p x
  (x.phase = .none → ¬leavesWithout p x → u.hose h = y) ∧
  (leavesWithout p x →
    u.hose h = { y with
      state := leftFor x, pump := false, mainValve := false, slowValve := false, issue := none } ∧
    lampAsked h .off u ∧ (u.tag h).mode = .quiet) ∧
  (x.state = .holding → x.phase = .settle → u.hose h = y) ∧
  (x.state = .holding → x.phase = .awaiting → ¬awaitsNone p x → u.hose h = y) ∧
  (x.state = .holding → x.phase = .queueWait → ¬readyWithout p x →
    (∀ k, ¬(awaitsNone p (s.hose k) ∧ cutOffBy p s)) → u.hose h = y) ∧
  (∀ e, x.state = .holding → readyWithout p x → ¬awaitsNone p x →
    findHold s.ownNumber h s.holds = some e →
    u.hose h = { y with
      phase := .awaiting, reserved := ⟨false, false⟩, timers := { x.timers with queueWait := none } } ∧
    findHold s.ownNumber h u.holds = some { e with age := 0 }) ∧
  (awaitsNone p x → x.phase = .awaiting ∨ findHold s.ownNumber h s.holds ≠ none →
    (¬cutOffBy p s → u.hose h =
      if x.phase = .awaiting then
        { y with phase := .settle, timers := { x.timers with settle := some s.cfg.station.settleWindow } }
      else
        { y with
          phase := .settle, reserved := ⟨false, false⟩
          timers := { x.timers with
            queueWait := none, settle := some s.cfg.station.settleWindow } }) ∧
    ∀ d, cutOffBy p s → x.dispense = some d →
      coilChecked h (coils.get h) d (s.meter h).s (s.hoseCfg h) x u)

/-- R143: what the entry of a port into FAULT leaves, the port as `x`: the hoses act in ascending number after
LINE_STATE is posted, the HOLDs set free stand on the other port, and the stages are settled last. -/
def faults (p : PortId) (cause : FaultCause) (x : Port) (coils : Quad CoilSense) (s t : State) : Prop :=
  let told := posted (if p = .a then 0 else 1) (.lineState .fault (s.port p).state (some cause)) s
  t.port p = x ∧ clearOf p t ∧ ∃ u, t = settleTanks none s u ∧
    (∀ h, actsWithout p coils h s u) ∧
    ((∀ h, (s.hose h).phase = .none ∨ (s.hose h).state = .holding) →
      ((∀ h, ¬(awaitsNone p (s.hose h) ∧ cutOffBy p s)) ∨
          (∀ h, (s.hose h).phase = .queueWait → readyWithout p (s.hose h)) →
        ∀ q, q ≠ p → (u.port q).urgent = (s.port q).urgent ++ [0, 1, 2, 3].filterMap fun h =>
          if readyWithout p (s.hose h) ∧ (s.hose h).waitPorts.mem q = true then
            (findHold s.ownNumber h s.holds).map (firstHold h · s)
          else none) ∧
      { u with
        hoses := s.hoses, tags := s.tags, meters := s.meters, holds := s.holds
        classCounters := s.classCounters, console := s.console, alert := s.alert
        portA := s.portA, portB := s.portB } = s ∧
      ((∀ h, ¬(awaitsNone p (s.hose h) ∧ cutOffBy p s)) → t = u ∧
        u.console = (([0, 1, 2, 3].filter fun h => decide (leavesWithout p (s.hose h))).foldl
          (fun a h => posted h.val (.hoseState (leftFor (s.hose h)) (s.hose h).state) a) told).console ∧
        (∀ q, q ≠ p → (u.port q).routine = (s.port q).routine ∧ samePortBut s u q) ∧
        (∀ h, ¬leavesWithout p (s.hose h) → u.tag h = s.tag h) ∧
        u.meters = s.meters ∧ u.classCounters = s.classCounters)) ∧
    (nothingWaits s → u.alert = s.alert ∧ u.holds = s.holds ∧ ∀ q, q ≠ p → u.port q = s.port q)

end Sys2Proof.Machine

/-- Failures: a transmit failure and a line that is never idle count one; the sixteenth takes port A to FAULT,
and the stall timer takes port B there: the frame in progress is cut, both queues are flushed, and the hoses no
longer wait on the port but go on with the sets that are left: to a HOLD on the other port, the settle window or the
coil check, or out of ENDED and REFUSED. That a failure event changes nothing where none can happen is the model's
choice (log 4); that a line is never idle only between frames is its reading (log 34). The coil level is an operand
(log 6); the hoses act in the same event (log 14), in ascending number after LINE_STATE (log 12), and the stages are
settled last (log 11). That the out-of-service mark stays after a hose has left ENDED is log 30. -/
def Obligations.FailuresTakeAPortToFault : Prop :=
  ∀ (coils : Quad CoilSense) (s : State),
    let x := s.portA
    let n := min 16 (x.failCount + 1)
    let idle := transmits x ∧ x.sending = none ∧ (x.urgent ≠ [] ∨ x.routine ≠ [])
    (x.failCount + 1 < 16 →
      (x.sending ≠ none → exec (.transmitFailure coils) s
        = .next (withPort .a { x with sending := none, failCount := n } s)) ∧
      (idle → exec (.noIdleTimeout coils) s = .next (withPort .a { x with failCount := n } s))) ∧
    (16 ≤ x.failCount + 1 →
      (x.sending ≠ none → ∃ t, exec (.transmitFailure coils) s = .next t ∧
        faults .a .transmit (faultedA n x) coils s t) ∧
      (idle → ∃ t, exec (.noIdleTimeout coils) s = .next t ∧
        faults .a .transmit (faultedA n x) coils s t)) ∧
    (x.sending = none → exec (.transmitFailure coils) s = .next s) ∧
    (¬idle → exec (.noIdleTimeout coils) s = .next s) ∧
    (s.portB.stallTimer ≠ none → transmits s.portB →
      ∃ t, exec (.stallExpiry coils) s = .next t ∧ faults .b .stall (faultedB s.portB) coils s t) ∧
    (s.portB.stallTimer = none ∨ ¬transmits s.portB → exec (.stallExpiry coils) s = .next s)

namespace Sys2Proof.Machine

/-- R137, R141, R127: a port in ACTIVE. -/
def activePort (s : State) (x : Port) : Port :=
  { x with
    state := .active, cause := none, recoveryTimer := none
    silenceTimer := some (s.cfg.station.silenceLimit * 1000) }

/-- R128, R161: the end of isolation by the port `p`, which is then `x`: a fast pass, and a ROLLCALL at the end of
the routine queue of each port that takes notices and has a free entry. -/
def isolationEnds (p : PortId) (x : Port) (s t : State) : Prop :=
  t.walker = { s.walker with
    position := none, fast := some ⟨0, false⟩
    stepTimer := some (s.cfg.station.refreshInterval / 4) } ∧
  ∀ q,
    let y := if q = p then x else s.port q
    (takesNotices t q → 0 < freeRoutine s q →
      portIs q { y with routine := y.routine ++ [rollcallEntry s] } t) ∧
    (¬takesNotices t q ∨ freeRoutine s q = 0 →
      (q = p → portIs q x t) ∧ (q ≠ p → t.port q = s.port q))

/-- R115, R128: the return of the port `p` ends the isolation of a running station. -/
def endsIsolation (p : PortId) (s : State) : Prop :=
  cutOffFromSite s ∧ s.started = true ∧ (s.portCfg p).configured = true

/-- R140, R141: the modem lines of port B once the port `p` is back: request-to-send while a frame waits, and the
stall timer while none can go for want of clear-to-send, 30 s from the first that waits. Port A has neither. -/
def modemFollows (p : PortId) (s t : State) : Prop :=
  let waits := transmits t.portB ∧ (t.portB.urgent ≠ [] ∨ t.portB.routine ≠ [])
  let waited := p = .a ∨ s.portB.urgent ≠ [] ∨ s.portB.routine ≠ []
  t.portA.rts = s.portA.rts ∧ t.portA.stallTimer = s.portA.stallTimer ∧
    (t.portB = s.portB ∨
      ((t.portB.rts = true ↔ waits) ∧
        (¬(waits ∧ t.portB.cts = false) → t.portB.stallTimer = none) ∧
        (waits ∧ t.portB.cts = false → t.portB.stallTimer
          = some ((if waited then s.portB.stallTimer else none).getD 30000))))

/-- R127, R128: a port is back in ACTIVE as `x`, with LINE_STATE, and isolation ends if it lasted. -/
def returns (p : PortId) (x : Port) (s t : State) : Prop :=
  (t.port p).state = .active ∧
    t.console = (posted (if p = .a then 0 else 1) (.lineState .active (s.port p).state none) s).console ∧
    (¬endsIsolation p s → portIs p x t ∧ (∀ q, q ≠ p → t.port q = s.port q) ∧ t.walker = s.walker) ∧
    (endsIsolation p s → isolationEnds p x s t) ∧ modemFollows p s t ∧
    { t with console := s.console, portA := s.portA, portB := s.portB, walker := s.walker } = s

/-- R140, R141: port B with clear-to-send at a level. -/
def stallAfter (level : Bool) (x : Port) : Timer :=
  if level = false ∧ transmits x ∧ (x.urgent ≠ [] ∨ x.routine ≠ []) then
    some (x.stallTimer.getD 30000)
  else none

end Sys2Proof.Machine

/-- Recoveries: the recovery timer of a transmit FAULT, a rise of clear-to-send in a stall FAULT; the stall timer
follows clear-to-send; the silence timer takes a port to SILENT. A routine entry that a hose waits for with its ISSUE
is not free for the ROLLCALL (log 13), a rise of clear-to-send is an edge whatever level was held (log 7), and
out of their cases the commands change nothing (log 4): the model's choices. -/
def Obligations.PortsRecoverStallAndFallSilent : Prop :=
  ∀ s : State,
    (s.portA.recoveryTimer ≠ none → s.portA.cause = some .transmit →
      ∃ t, exec .recoveryExpiry s = .next t ∧
        returns .a { activePort s s.portA with failCount := 0 } s t) ∧
    (s.portA.recoveryTimer = none ∨ s.portA.cause ≠ some .transmit →
      exec .recoveryExpiry s = .next s) ∧
    (∃ t, exec .ctsFall s = .next t ∧ portIs .b { s.portB with cts := false } t ∧
      t.portB.stallTimer = stallAfter false s.portB ∧ { t with portB := s.portB } = s) ∧
    (¬(s.portB.state = .fault ∧ s.portB.cause = some .stall) →
      ∃ t, exec .ctsRise s = .next t ∧ portIs .b { s.portB with cts := true } t ∧
        t.portB.stallTimer = none ∧ { t with portB := s.portB } = s) ∧
    (s.portB.state = .fault → s.portB.cause = some .stall →
      ∃ t, exec .ctsRise s = .next t ∧
        returns .b { activePort s s.portB with cts := true } s t ∧ t.portB.stallTimer = none) ∧
    ∀ p : PortId,
      ((s.port p).silenceTimer ≠ none → (s.port p).state = .active →
        ∃ t, exec (.silenceExpiry p) s = .next t ∧
          portIs p { s.port p with state := .silent, cause := none, silenceTimer := none } t ∧
          t.console = (posted (if p = .a then 0 else 1) (.lineState .silent .active none) s).console ∧
          (∀ q, q ≠ p → t.port q = s.port q) ∧
          { t with console := s.console, portA := s.portA, portB := s.portB } = s) ∧
      ((s.port p).silenceTimer = none ∨ (s.port p).state ≠ .active →
        exec (.silenceExpiry p) s = .next s)

namespace Sys2Proof.Machine

/-- R144: a port that has taken a valid frame: counted, the silence timer restarted in ACTIVE, and the frame in
the FIFO, or lost when 16 stand there. -/
def portTaking (f : Frame) (s : State) (x : Port) : Port :=
  let k : PortCounters := { x.counters with framesReceived := x.counters.framesReceived.add 1 }
  let y : Port := { x with
    silenceTimer :=
      if x.state = .active then some (s.cfg.station.silenceLimit * 1000) else x.silenceTimer }
  if x.fifo.length < 16 then { y with counters := k, fifo := x.fifo ++ [f] }
  else { y with counters := { k with fifoLost := k.fifoLost.add 1 }, messageLost := true }

/-- R143, R145: the port `p` in FAULT because another station uses this station's number. -/
def faultedDuplicate (p : PortId) (x : Port) : Port :=
  { x with
    state := .fault, cause := some .duplicate, silenceTimer := none, recoveryTimer := none
    urgent := [], routine := [], sending := none
    rts := if p = .b then false else x.rts, stallTimer := if p = .b then none else x.stallTimer }

/-- One more check error. -/
def checkFailed (x : Port) : Port :=
  { x with counters := { x.counters with checkErrors := x.counters.checkErrors.add 1 } }

/-- R138, R142, R144, R145, R127: what a command that gives a port, as `x`, a valid frame does. -/
def takesFrame (p : PortId) (command : Instr) (x : Port) (f : Frame) (coils : Quad CoilSense)
    (s : State) : Prop :=
  (¬(f.origin = s.ownNumber ∧ f.relayed = false) →
    (x.state = .active ∨ x.state = .fault →
      exec command s = .next (withPort p (portTaking f s x) s)) ∧
    (x.state = .silent → ∃ t, exec command s = .next t ∧
      returns p (portTaking f s (activePort s x)) s t)) ∧
  (f.origin = s.ownNumber → f.relayed = false →
    (x.cause = some .duplicate → x.state = .fault →
      exec command s = .next (withPort p
        { x with counters :=
            { x.counters with framesReceived := x.counters.framesReceived.add 1 } } s)) ∧
    (x.cause ≠ some .duplicate → ∃ t, exec command s = .next t ∧ (t.port p).state = .fault ∧
      (t.port p).cause = some .duplicate ∧ (t.port p).fifo = x.fifo ∧
      (t.port p).recoveryTimer = none ∧
      (x.state ≠ .fault → (t.port p).urgent = [] ∧ (t.port p).routine = [] ∧
        (t.port p).sending = none ∧ clearOf p t) ∧
      (x.state = .active →
        let y : Port := { x with
          silenceTimer := some (s.cfg.station.silenceLimit * 1000)
          counters := { x.counters with framesReceived := x.counters.framesReceived.add 1 } }
        faults p .duplicate (faultedDuplicate p y) coils
          (posted (if p = .a then 0 else 1) (.duplicateStation f.kind) (withPort p y s)) t) ∧
      (x.state = PortState.active ∨ x.state = PortState.fault → nothingWaits s →
        t.console = (posted (if p = .a then 0 else 1)
          (.lineState .fault x.state (some .duplicate))
          (posted (if p = .a then 0 else 1) (.duplicateStation f.kind) s)).console)))

end Sys2Proof.Machine

/-- Frames received: a valid one is counted and stands in the FIFO, ends SILENT, and shows a duplicate of this
station when it carries this station's number unrelayed; an invalid one counts one check error; a port in OFF
receives nothing. On port B an invalid one makes the port wait for a gap (log 28). A routine entry that a hose waits
for with its ISSUE is not free for the ROLLCALL (log 13). What a FAULT does to the hoses is as with the other causes:
the coil level is an operand (log 6), they act in the same event (log 14), in ascending number (log 12), the stages
settled last (log 11), and the out-of-service mark stays after a hose has left ENDED (log 30). -/
def Obligations.FramesReceivedEnterTheFifo : Prop :=
  ∀ (bits : List Bool) (bytes : List LineByte) (coils : Quad CoilSense) (s : State),
    let heardB := ∃ b r, bytes = b :: r ∧ (b.gapBefore = true ∨ s.portB.resync = false)
    (s.portA.state ≠ .off → s.portA.sending = none →
      (∀ f, decodeA bits = some f →
        takesFrame .a (.portAFrameReceived bits coils) s.portA f coils s) ∧
      (decodeA bits = none →
        exec (.portAFrameReceived bits coils) s = .next (withPort .a (checkFailed s.portA) s))) ∧
    (s.portA.state = .off ∨ s.portA.sending ≠ none →
      exec (.portAFrameReceived bits coils) s = .next s) ∧
    (s.portB.state ≠ .off → heardB →
      (∀ f, decodeB bytes = some f →
        takesFrame .b (.portBFrameReceived bytes coils) { s.portB with resync := false } f coils
          s) ∧
      (decodeB bytes = none →
        exec (.portBFrameReceived bytes coils) s
          = .next (withPort .b { checkFailed s.portB with resync := true } s))) ∧
    (s.portB.state = .off ∨ ¬heardB → exec (.portBFrameReceived bytes coils) s = .next s)

/-! ### Merging (R68, R69, R71, R74, R75, R87, R88, R102 to R104, R119 to R123, R146 to R158) -/

namespace Sys2Proof.Machine

/-- R144, R148: a frame stands at the head of the FIFO of a port of a running station. -/
def heads (p : PortId) (f : Frame) (rest : List Frame) (s : State) : Prop :=
  s.started = true ∧ (s.port p).fifo = f :: rest

/-- R144, R146: the frame taken, and its relay copy offered. -/
def taken (p : PortId) (f : Frame) (rest : List Frame) (s : State) : State :=
  offerRelay p f (withPort p { s.port p with fifo := rest } s)

/-- R150: the notice is not valid: one check error, and nothing merged. -/
def invalidOn (p : PortId) (s : State) : State := withPort p (checkFailed (s.port p)) s

/-- R126: both ports are configured with the relay option. -/
def relays (s : State) : Prop := ∀ p, (s.portCfg p).configured = true ∧ (s.portCfg p).relay = true

/-- The merge commands with the kind code that each takes. -/
def mergeRows (p : PortId) : List (Instr × Nat) :=
  [(.holdMerge p, 1), (.rollcallMerge p, 2), (.shiftMerge p, 3), (.serviceMerge p, 4),
    (.issueMerge p, 5), (.stockMerge p, 6), (.stateMerge p, 7)]

/-- R146: where a relay copy goes on the port `y`. -/
def copied (f : Frame) (urgentRoom routineRoom : Bool) (y : Port) : Port :=
  let e : QueueEntry := ⟨{ f with relayed := true }, .relay, none⟩
  let sent := { y.counters with relayed := y.counters.relayed.add 1 }
  let lost := { y.counters with relayDropped := y.counters.relayDropped.add 1 }
  if f.kind = 1 then
    if urgentRoom then { y with urgent := y.urgent ++ [e], counters := sent }
    else { y with counters := lost }
  else
    if routineRoom then { y with routine := y.routine ++ [e], counters := sent }
    else { y with counters := lost }

end Sys2Proof.Machine

/-- Taking a frame: the relay copy goes to the other port, a HOLD to its urgent queue and any other to its routine
queue with more than eight entries free; a frame of no notice kind counts one check error; a merge command whose
kind does not stand at the head changes nothing (log 4). A routine entry that a hose waits for is not free (log
13). -/
def Obligations.FramesTakenAreRelayedAndSorted : Prop :=
  ∀ (p : PortId) (f : Frame) (rest : List Frame) (s : State),
    let q := otherPort p
    let y := s.port q
    let plain := withPort p { s.port p with fifo := rest } s
    (heads p f rest s → f.kind = 0 ∨ 8 ≤ f.kind.toNat →
      exec (.nonNoticeFrameMerge p) s = .next (invalidOn p (taken p f rest s))) ∧
    (heads p f rest s → 1 ≤ f.kind.toNat → f.kind.toNat ≤ 7 →
      exec (.nonNoticeFrameMerge p) s = .next s) ∧
    (∀ row ∈ mergeRows p,
      s.started = false ∨ (s.port p).fifo = [] ∨ (heads p f rest s ∧ f.kind.toNat ≠ row.2) →
      exec row.1 s = .next s) ∧
    (¬relays s ∨ f.relayed = true ∨ y.state = .off → taken p f rest s = plain) ∧
    (relays s → f.relayed = false → y.state = .fault →
      taken p f rest s = withPort q
        { y with counters := { y.counters with faultDiscards := y.counters.faultDiscards.add 1 } }
        plain) ∧
    (relays s → f.relayed = false → transmits y →
      portIs q (copied f (decide (0 < freeUrgent s q)) (decide (8 < freeRoutine s q)) y)
        (taken p f rest s) ∧
      (taken p f rest s).port p = { s.port p with fifo := rest } ∧
      { taken p f rest s with portA := s.portA, portB := s.portB } = s)

namespace Sys2Proof.Machine

/-- R71: a carried shift above σ is adopted and reported. -/
def shiftHeard (n origin : Nat) (s : State) : State :=
  if s.sigma < n then posted 0 (.shiftChange n s.sigma origin) { s with sigma := n } else s

/-- R149: the shift that a ROLLCALL or a SHIFT carries; bytes that are missing read as 0. -/
def carriedShift (f : Frame) : Nat :=
  (f.payload.getD 0 0).toNat * 256 + (f.payload.getD 1 0).toNat

/-- R69: a notice dropped for a full table: counted, and TABLE_FULL at most once in 60 s. -/
def fullOn (p : PortId) (v : Nat) (s : State) : State :=
  let x := s.port p
  let k := { x.counters with tableFullDrops := x.counters.tableFullDrops.add 1 }
  let s1 := withPort p { x with counters := k } s
  if s.tableFullTick.all fun t => decide (t + 60 ≤ s.tick) then
    posted v .tableFull { s1 with tableFullTick := some s.tick }
  else s1

/-- R65, R68: the record of a notice's vehicle as it is found or created. -/
def noticed (v : Nat) (cls : Option ClassId) (s : State) (r : VehicleRecord) : Prop :=
  recordMet .notice v cls s r

/-- R69: the table is full and does not hold the vehicle. -/
def noRoomFor (v : Nat) (s : State) : Prop := findVehicle v s = none ∧ 320 ≤ s.vehicles.length

/-- The later of two values that may be absent. -/
def optMax (a b : Option Nat) : Option Nat :=
  match a, b with
  | some x, some y => some (max x y)
  | some x, none => some x
  | none, y => y

/-- R87, R88: hours at service after a generation with hours. -/
def hoursAfter (g : Nat) (hours : Option Nat) (r : VehicleRecord) : Option Nat :=
  if r.generation < g then hours
  else if g = r.generation then optMax r.hoursAtService hours
  else r.hoursAtService

/-- R87, R88: latest hours is not left below hours at service where they have changed. -/
def latestAfter (g : Nat) (hours : Option Nat) (r : VehicleRecord) : Option Nat :=
  if r.generation < g ∨ (g = r.generation ∧ hoursAfter g hours r ≠ r.hoursAtService) then
    optMax r.latestHours hours
  else r.latestHours

/-- R74: a map under a key after entries of the key `n`; a lower key is ignored, a higher one starts afresh. -/
def keyedMap (held n : Nat) (m : CompMap) (entries : List (Nat × Nat)) : CompMap :=
  if n < held then m else CompMap.mergeAll (if n = held then m else []) entries

/-- What a merged notice leaves of the vehicle table: the record `x` of its vehicle, its status derived, and the
other records as they were. -/
def recordLeft (v : Nat) (s u : State) (x : VehicleRecord) : Prop :=
  findVehicle v u = some x ∧ statusDerived s x ∧ otherVehiclesKept v s u

end Sys2Proof.Machine

/-- ROLLCALL, SHIFT and SERVICE: the shift offered for σ, the fast pass of another station's ROLLCALL, and the
generation with its hours. -/
def Obligations.RollcallShiftAndServiceMerge : Prop :=
  ∀ (p : PortId) (f : Frame) (rest : List Frame) (s : State), heads p f rest s →
    let base := taken p f rest s
    let told := shiftHeard (carriedShift f) f.origin base
    (f.kind = 3 → exec (.shiftMerge p) s = .next told) ∧
    (f.kind = 2 → f.origin = s.ownNumber → exec (.rollcallMerge p) s = .next told) ∧
    (f.kind = 2 → f.origin ≠ s.ownNumber → exec (.rollcallMerge p) s
      = .next { told with walker := { s.walker with
          position := none, fast := some ⟨0, false⟩
          stepTimer := some (s.cfg.station.refreshInterval / 4) } }) ∧
    (f.kind = 4 → readService f.payload = none →
      exec (.serviceMerge p) s = .next (invalidOn p base)) ∧
    ∀ n, f.kind = 4 → readService f.payload = some n →
      (noRoomFor n.vehicle s → exec (.serviceMerge p) s = .next (fullOn p n.vehicle base)) ∧
      ∀ r, noticed n.vehicle none s r →
        ∃ u x, exec (.serviceMerge p) s = .next u ∧ recordLeft n.vehicle s u x ∧
          x.generation = max r.generation n.generation ∧
          x.serviceMap = (if r.generation < n.generation then [] else r.serviceMap) ∧
          x.hoursAtService = hoursAfter n.generation n.hours r ∧
          x.latestHours = latestAfter n.generation n.hours r ∧
          x.pendingHours = pendingAfter r x.latestHours ∧
          { x with
            generation := r.generation, serviceMap := r.serviceMap, touched := r.touched
            hoursAtService := r.hoursAtService, latestHours := r.latestHours
            pendingHours := r.pendingHours, status := r.status } = r ∧
          u.console = (statusTold r.status x base).console ∧
          { u with vehicles := base.vehicles, console := base.console } = base

namespace Sys2Proof.Machine

/-- R119: the entry that a HOLD of another station leaves for its pair. -/
def heardEntry (origin : Nat) (n : HoldNotice) (s : State) : HoldEntry :=
  let fresh : HoldEntry := ⟨origin, n.hose, n.vehicle, n.shift, n.tank, n.preset, n.number, 0⟩
  match findHold origin n.hose s.holds with
  | some e =>
    if e.number = n.number then { e with age := 0, preset := min e.preset n.preset } else fresh
  | none => fresh

/-- R151, steps 1 to 3: what a HOLD of another station leaves before the double-hold test. -/
def holdHeard (p : PortId) (f : Frame) (rest : List Frame) (n : HoldNotice) (s m : State) : Prop :=
  let base := taken p f rest s
  m.sigma = max s.sigma n.shift ∧
    findHold f.origin n.hose m.holds = some (heardEntry f.origin n s) ∧
    (∀ k j, ¬(k = f.origin ∧ j = n.hose) → findHold k j m.holds = findHold k j s.holds) ∧
    { m with
      vehicles := base.vehicles, console := base.console, sigma := base.sigma
      holds := base.holds } = base

/-- R122: the hose `g` of this station, and no other, has an open dispense for the vehicle. -/
def dispensesAt (g : HoseId) (v : Nat) (s : State) : Prop :=
  (∃ e ∈ s.holds, e.station = s.ownNumber ∧ e.vehicle = v ∧ e.hose = g ∧
    dispensesIn (s.hose g).state) ∧
  ∀ e ∈ s.holds, e.station = s.ownNumber → e.vehicle = v → dispensesIn (s.hose e.hose).state →
    e.hose = g

/-- A record as it was but for its status and its tick. -/
def sameRecord (r x : VehicleRecord) : Prop :=
  { x with status := r.status, touched := r.touched } = r

end Sys2Proof.Machine

namespace Sys2Proof.Machine

/-- R11, R20: the record of a dispense that ends in HOLDING. -/
def zeroRecord (h : HoseId) (d : Dispense) (e : EndReason) (s : State) : DispenseRecord :=
  ⟨h, d.vehicle, d.cls, d.holdNumber, d.holdShift, d.tank, (s.tank d.tank).period, d.granted, 0, 0,
    (s.meter h).t10.getD 150, d.engineHours, d.startTick, s.tick, e, d.flags⟩

/-- R175: a dispense of no volume and a refusal, both counted under one class, and no other class counter. -/
def lossCounted (cls : ClassId) (r : RefusalReason) (s t : State) : Prop :=
  let before := s.classCounters.get cls
  let counted := t.classCounters.get cls
  (∀ i : Fin 6, counted.buckets.get i
    = if i.val = bucketOf 0 then (before.buckets.get i).add 1 else before.buckets.get i) ∧
  counted.volume = before.volume.add 0 ∧
  (∀ i : Fin 10, counted.refusals.get i
    = if i = r.index then (before.refusals.get i).add 1 else before.refusals.get i) ∧
  ∀ c, c ≠ cls → t.classCounters.get c = s.classCounters.get c

/-- R11, R22, R123: a conflict loss takes the hose `g` from HOLDING: end processing at zero volume with its record,
its ISSUE and its counts, and REFUSED, left for IDLE at once if the nozzle is hung up and no port is owed. -/
def losesHolding (g : HoseId) (d : Dispense) (s t : State) : Prop :=
  let x := s.hose g
  let y := t.hose g
  let record := zeroRecord g d .doubleHold s
  let told := posted g.val (.refusal .doubleHold) (posted g.val (.hoseState .refused .holding)
    (posted g.val (.dispenseEnd record) s))
  let stays := x.lifted = true ∨ ∃ p, takesNotices s p ∧ freeRoutine s p = 0
  (stays → y.state = .refused ∧ lampAsked g .red t ∧ t.console = told.console) ∧
  (¬stays → y.state = .idle ∧ lampAsked g .off t ∧
    t.console = (posted g.val (.hoseState .idle .refused) told).console) ∧
  outputsAre y false false false ∧ (t.tag g).mode = .quiet ∧ t.alert = .refuse ∧
  y.dispense = none ∧ y.requested = none ∧ y.last = some record ∧ y.phase = .none ∧
  y.waitPorts = ⟨false, false⟩ ∧ y.reserved = ⟨false, false⟩ ∧ y.lifted = x.lifted ∧
  y.outOfService = x.outOfService ∧ y.lateVolume = (s.meter g).g ∧ y.leakReported = false ∧
  y.timers = { x.timers with lift := none, queueWait := none, settle := none } ∧
  (t.meter g).lateActive = true ∧ (t.meter g).carried = (s.meter g).g ∧ (t.meter g).latePulses = 0 ∧
  (t.meter g).c = 0 ∧ (t.meter g).s = 0 ∧ (t.meter g).held = (s.meter g).held ∧
  (∀ r, findVehicle d.vehicle s = some r →
    issueOffered g (issueOf g d 0 r (s.tank d.tank) s) s t) ∧
  lossCounted d.cls .doubleHold s t ∧
  t.holds = s.holds.filter (fun e => decide (¬(e.station = s.ownNumber ∧ e.hose = g))) ∧
  (∀ k, k ≠ g → t.tag k = s.tag k ∧ t.meter k = s.meter k ∧
    { t.hose k with reserved := (s.hose k).reserved } = s.hose k) ∧
  (∀ k p, waitsFor k p s → (∀ j, j < k → ¬waitsFor j p s) → k ≠ g → x.reserved.mem p = true →
    (s.port p).urgent.length + reservedCount s p ≤ 8 → (t.hose k).reserved.mem p = true) ∧
  { t with
    hoses := s.hoses, tags := s.tags, meters := s.meters, holds := s.holds
    classCounters := s.classCounters, console := s.console, alert := s.alert
    portA := s.portA, portB := s.portB } = s

/-- R122, R123: the double-hold test of a HOLD of the station `origin` against the hose `g`: the higher station
yields, from issue to CLOSING and from HOLDING to REFUSED; CLOSING keeps its reason. -/
def yields (origin : Nat) (g : HoseId) (s t : State) : Prop :=
  (s.ownNumber < origin ∨ (s.hose g).state = .closing → t = s) ∧
  (origin < s.ownNumber →
    ((s.hose g).state = .running ∨ (s.hose g).state = .slowing ∨ (s.hose g).state = .paused →
      closes g .doubleHold s t ∧ (t.hose g).outOfService = (s.hose g).outOfService) ∧
    ∀ d, (s.hose g).state = .holding → (s.hose g).dispense = some d →
      (s.hose g).pendingIssue = ⟨false, false⟩ → losesHolding g d s t)

end Sys2Proof.Machine

/-- HOLD: the record found or created, the shift offered, the hold list, and the double-hold test: the dispense of
the higher station closes, or is refused from HOLDING with its record, its ISSUE and its counts, and the record's
status is derived after it. The stages are settled last, that of the tank named among them (log 11). Both counts are
under the class that the dispense took at CHECKING (log 40); DISPENSE_END stands before HOSE_STATE, REFUSAL after
both, and SERVICE_STATUS last (log 12); a routine entry that another hose waits for is not free for the ISSUE (log
13), and an urgent entry that the hose had reserved goes to a hose that waits for one (log 14). That no VALVE_LEAK is
posted there, whatever volume is carried from HOLDING, is log 16, and that the out-of-service mark stays is log 30. -/
def Obligations.HoldMergeWritesTheHoldAndTestsForTwo : Prop :=
  ∀ (p : PortId) (f : Frame) (rest : List Frame) (s : State), heads p f rest s → f.kind = 1 →
    let base := taken p f rest s
    (readHold f.payload = none → exec (.holdMerge p) s = .next (invalidOn p base)) ∧
    ∀ n, readHold f.payload = some n →
      let told := shiftHeard n.shift f.origin base
      (noRoomFor n.vehicle s → exec (.holdMerge p) s = .next (fullOn p n.vehicle base)) ∧
      ∀ r, noticed n.vehicle none s r →
        (f.origin = s.ownNumber →
          ∃ u x, exec (.holdMerge p) s = .next (settleTanks (some n.tank) s u) ∧
            recordLeft n.vehicle s u x ∧ sameRecord r x ∧
            u.console = (statusTold r.status x told).console ∧ u.sigma = max s.sigma n.shift ∧
            { u with
              vehicles := base.vehicles, console := base.console, sigma := base.sigma } = base) ∧
        (f.origin ≠ s.ownNumber →
          ∃ m w u, exec (.holdMerge p) s = .next (settleTanks (some n.tank) s u) ∧
            holdHeard p f rest n s m ∧ m.console = told.console ∧
            findVehicle n.vehicle m = some r ∧ otherVehiclesKept n.vehicle s m ∧
            statusLast n.vehicle r s w u ∧
            ((∀ e ∈ s.holds, e.station = s.ownNumber → e.vehicle = n.vehicle →
              ¬dispensesIn (s.hose e.hose).state) → w = m) ∧
            ∀ g, dispensesAt g n.vehicle s → yields f.origin g m w)

namespace Sys2Proof.Machine

/-- R104: a tank after an ISSUE of station `k` with an own issue component. -/
def issuedTank (k period vol : Nat) (t : Tank) : Tank :=
  if period < t.period then t
  else if t.period < period then
    ⟨period, 0, true, CompMap.merge [] k vol, [], none, none, false, t.stage⟩
  else { t with issueMap := CompMap.merge t.issueMap k vol }

end Sys2Proof.Machine

/-- ISSUE: the record's components and hours, the tank's issue component, and the release of the hold. The stages
are settled last, that of the tank named among them (log 11). -/
def Obligations.IssueMergeRaisesTheTablesAndReleasesTheHold : Prop :=
  ∀ (p : PortId) (f : Frame) (rest : List Frame) (s : State), heads p f rest s → f.kind = 5 →
    let base := taken p f rest s
    (readIssue f.payload = none → exec (.issueMerge p) s = .next (invalidOn p base)) ∧
    ∀ n, readIssue f.payload = some n →
      (noRoomFor n.vehicle s → exec (.issueMerge p) s = .next (fullOn p n.vehicle base)) ∧
      ∀ r, noticed n.vehicle n.cls s r →
        ∃ u x, exec (.issueMerge p) s = .next (settleTanks (some n.tank) s u) ∧ recordLeft n.vehicle s u x ∧
          x.shift = max r.shift n.shift ∧
          x.shiftMap = keyedMap r.shift n.shift r.shiftMap [(f.origin, n.ownShift)] ∧
          x.generation = max r.generation n.generation ∧
          x.serviceMap =
            keyedMap r.generation n.generation r.serviceMap [(f.origin, n.ownService)] ∧
          x.hoursAtService = (if r.generation < n.generation then none else r.hoursAtService) ∧
          x.latestHours = optMax r.latestHours n.latest ∧
          x.pendingHours = pendingAfter r x.latestHours ∧
          { x with
            shift := r.shift, shiftMap := r.shiftMap, generation := r.generation
            serviceMap := r.serviceMap, hoursAtService := r.hoursAtService
            latestHours := r.latestHours, pendingHours := r.pendingHours, status := r.status
            touched := r.touched } = r ∧
          u.sigma = max s.sigma n.shift ∧
          u.tank n.tank = issuedTank f.origin n.period n.ownIssue (s.tank n.tank) ∧
          (∀ k, k ≠ n.tank → u.tank k = s.tank k) ∧
          (∀ e, f.origin ≠ s.ownNumber → findHold f.origin n.hose s.holds = some e →
            e.number = n.number →
            u.holds = s.holds.filter fun a => decide (¬(a.station = f.origin ∧ a.hose = n.hose))) ∧
          (f.origin = s.ownNumber ∨ findHold f.origin n.hose s.holds = none ∨
              (∃ e, findHold f.origin n.hose s.holds = some e ∧ e.number ≠ n.number) →
            u.holds = s.holds) ∧
          u.console = (statusTold r.status x (shiftHeard n.shift f.origin base)).console ∧
          { u with
            vehicles := base.vehicles, console := base.console, sigma := base.sigma
            tanks := base.tanks, holds := base.holds } = base

/-- STATE: every entry's components, the generation with its hours, and the latest hours. -/
def Obligations.StateMergeRaisesTheRecord : Prop :=
  ∀ (p : PortId) (f : Frame) (rest : List Frame) (s : State), heads p f rest s → f.kind = 7 →
    let base := taken p f rest s
    (readState f.payload = none → exec (.stateMerge p) s = .next (invalidOn p base)) ∧
    ∀ n, readState f.payload = some n →
      (noRoomFor n.vehicle s → exec (.stateMerge p) s = .next (fullOn p n.vehicle base)) ∧
      ∀ r, noticed n.vehicle n.cls s r →
        ∃ u x, exec (.stateMerge p) s = .next u ∧ recordLeft n.vehicle s u x ∧
          x.shift = (if n.entries = [] then r.shift else max r.shift n.shift) ∧
          x.shiftMap = (if n.entries = [] then r.shiftMap
            else keyedMap r.shift n.shift r.shiftMap (n.entries.map fun e => (e.station, e.first))) ∧
          x.generation = max r.generation n.generation ∧
          x.serviceMap = keyedMap r.generation n.generation r.serviceMap
            (n.entries.map fun e => (e.station, e.second)) ∧
          x.hoursAtService = hoursAfter n.generation n.hours r ∧
          x.latestHours = optMax (latestAfter n.generation n.hours r) n.latest ∧
          x.pendingHours = pendingAfter r x.latestHours ∧
          { x with
            shift := r.shift, shiftMap := r.shiftMap, generation := r.generation
            serviceMap := r.serviceMap, hoursAtService := r.hoursAtService
            latestHours := r.latestHours, pendingHours := r.pendingHours, status := r.status
            touched := r.touched } = r ∧
          u.sigma = max s.sigma n.shift ∧
          u.console = (statusTold r.status x (shiftHeard n.shift f.origin base)).console ∧
          { u with
            vehicles := base.vehicles, console := base.console, sigma := base.sigma } = base

namespace Sys2Proof.Machine

/-- R102, R103: the record that the entries of a part meet: a new period, or the present one with its opening
at the smallest carried. -/
def stockBase (n : StockNotice) (capacity : Nat) (t : Tank) : Tank :=
  let o := n.opening.map (min · capacity)
  if t.period < n.period then
    ⟨n.period, o.getD 0, o.isNone, [], [], none, none, false, t.stage⟩
  else
    match o with
    | none => t
    | some x =>
      { t with
        opening := if t.openingPending then x else min t.opening x, openingPending := false }

/-- R102, R103: that record with the entries merged. -/
def stockEntries (n : StockNotice) (t : Tank) : Tank :=
  { t with
    issueMap := CompMap.mergeAll t.issueMap (n.entries.map fun e => (e.station, e.first))
    deliveryMap := CompMap.mergeAll t.deliveryMap (n.entries.map fun e => (e.station, e.second)) }

/-- R103: a carried gauge ranks above the held one: a higher count, or an equal count and a higher origin. -/
def ranksAbove (g : NoticeGauge) (t : Tank) : Prop :=
  ∀ y, t.gauge = some y → y.count < g.count ∨ (g.count = y.count ∧ y.origin < g.origin)

/-- R97: the variance of a volume against a record. -/
def varianceAt (vol : Nat) (t : Tank) : Option Int :=
  if t.openingPending then none else some ((vol : Int) - book t)

/-- R97: whether a variance is beyond the limit. -/
def beyond (limit : Nat) (v : Option Int) : Bool := v.any fun x => decide (limit < x.natAbs)

/-- R96, R97: a record with a gauge adopted. -/
def withGauge (g : NoticeGauge) (c : TankCfg) (t : Tank) : Tank :=
  let vol := min g.volume c.capacity
  { t with
    gauge := some ⟨g.count, g.origin, vol, CompMap.sum t.issueMap, CompMap.sum t.deliveryMap⟩
    variance := varianceAt vol t, varianceFlag := beyond c.varianceLimit (varianceAt vol t) }

/-- R97: VARIANCE is posted when the flag is set or just cleared. -/
def varianceTold (k : TankId) (limit : Nat) (held : Bool) (v : Option Int) (s : State) : State :=
  match v with
  | some x => if beyond limit v || held then posted k.val (.variance x limit (beyond limit v)) s else s
  | none => s

end Sys2Proof.Machine

/-- STOCK: a part of a lower period is ignored; a part of a higher one starts the period, one of an equal period
meets it; the entries merge, and a gauge that ranks above is adopted. The stages are settled last, that of the tank
named among them, whatever the part has changed (log 11). -/
def Obligations.StockMergeRaisesTheTank : Prop :=
  ∀ (p : PortId) (f : Frame) (rest : List Frame) (s : State), heads p f rest s → f.kind = 6 →
    let base := taken p f rest s
    (readStock f.payload = none → exec (.stockMerge p) s = .next (invalidOn p base)) ∧
    ∀ n, readStock f.payload = some n →
      let k := n.tank
      let c := s.tankCfg k
      let y := stockEntries n (stockBase n c.capacity (s.tank k))
      (n.period < (s.tank k).period →
        exec (.stockMerge p) s = .next (settleTanks (some k) s base)) ∧
      ((s.tank k).period ≤ n.period →
        (∀ g, n.gauge = some g → ranksAbove g y →
          ∃ u, exec (.stockMerge p) s = .next (settleTanks (some k) s u) ∧
            u = withTank k (withGauge g c y)
              (varianceTold k c.varianceLimit y.varianceFlag
                (varianceAt (min g.volume c.capacity) y) base)) ∧
        (n.gauge = none ∨ (∃ g, n.gauge = some g ∧ ¬ranksAbove g y) →
          exec (.stockMerge p) s = .next (settleTanks (some k) s (withTank k y base))))

/-! ### Holds in time, the tick and the walker (R116 to R121, R130, R159 to R161, R180) -/

/-- The hold list in time: an own entry 20 s old is announced again with the preset that remains; a peer's entry
60 s old is removed and counted; a second raises the tick and every age. Where an event finds no entry of its kind it
changes nothing (log 4), a second moves no timer (log 3), the tick wraps after its largest value (log 24), and the
stages are settled last (log 11): the model's choices. -/
def Obligations.HoldsAreRefreshedAndExpire : Prop :=
  ∀ (h : HoseId) (k : Nat) (s : State),
    (∀ e, findHold s.ownNumber h s.holds = some e →
      (s.started = true → dispensesIn (s.hose h).state → (s.hose h).phase ≠ .queueWait →
        20 ≤ e.age →
        ∃ t, exec (.holdRefresh h) s = .next t ∧
          findHold s.ownNumber h t.holds = some { e with age := 0 } ∧
          (∀ i j, ¬(i = s.ownNumber ∧ j = h) → findHold i j t.holds = findHold i j s.holds) ∧
          (∀ p, (takesNotices s p → 0 < freeUrgent s p →
              (t.port p).urgent = (s.port p).urgent ++
                [⟨⟨0, s.ownNumber, false, 1, HoldNotice.payload
                  ⟨e.vehicle, e.hose, e.number, e.shift, e.tank, e.preset - (s.meter h).s⟩⟩,
                  .ordinary, none⟩] ∧
              (t.port p).routine = (s.port p).routine ∧ samePortBut s t p) ∧
            (¬takesNotices s p ∨ freeUrgent s p = 0 → t.port p = s.port p)) ∧
          { t with holds := s.holds, portA := s.portA, portB := s.portB } = s) ∧
      (s.started = false ∨ ¬dispensesIn (s.hose h).state ∨ (s.hose h).phase = .queueWait ∨
          e.age < 20 →
        exec (.holdRefresh h) s = .next s)) ∧
    (findHold s.ownNumber h s.holds = none → exec (.holdRefresh h) s = .next s) ∧
    (∀ e, findHold k h s.holds = some e →
      (s.started = true → k ≠ s.ownNumber → 60 ≤ e.age →
        exec (.holdExpiry k h) s = .next (settleTanks none s
          { s with
            holds := s.holds.filter (fun a => decide (¬(a.station = k ∧ a.hose = h)))
            holdExpiries := s.holdExpiries.add 1 })) ∧
      (s.started = false ∨ k = s.ownNumber ∨ e.age < 60 → exec (.holdExpiry k h) s = .next s)) ∧
    (findHold k h s.holds = none → exec (.holdExpiry k h) s = .next s) ∧
    (s.started = true → exec .tick s = .next
      { s with
        tick := (s.tick + 1) % 4294967296
        holds := s.holds.map fun e => { e with age := e.age + 1 } }) ∧
    (s.started = false → exec .tick s = .next s)

namespace Sys2Proof.Machine

/-- R159: a record that is worth announcing. -/
def worthAnnouncing (r : VehicleRecord) : Prop :=
  r.shiftMap ≠ [] ∨ r.serviceMap ≠ [] ∨ r.hoursAtService ≠ none ∨ r.latestHours ≠ none ∨
    0 < r.generation

/-- R160: a port that the walker offers to. -/
def walksOn (s : State) (p : PortId) : Prop := (s.portCfg p).configured = true ∧ transmits (s.port p)

/-- R160: the record `r` is the first one worth announcing of the records that `above` admits. -/
def firstOf (above : VehicleRecord → Prop) (s : State) (r : VehicleRecord) : Prop :=
  ∃ before after, s.vehicles = before ++ r :: after ∧ worthAnnouncing r ∧ above r ∧
    ∀ y ∈ before, ¬(worthAnnouncing y ∧ above y)

/-- R160: above the walk position. -/
def abovePosition (s : State) (r : VehicleRecord) : Prop :=
  ∀ v, s.walker.position = some v → v < r.vehicle

/-- R160, R161: the fast pass after a placed step. -/
def fastAfter (wrap tank : Bool) (f : FastPass) : Option FastPass :=
  let wrapped := f.wrapped || wrap
  let tanks := if tank then min 4 (f.tanks + 1) else f.tanks
  if wrapped = true ∧ 4 ≤ tanks then none else some ⟨tanks, wrapped⟩

/-- R160: the step timer at the interval in force. -/
def stepInterval (fast : Option FastPass) (s : State) : Timer :=
  some (if fast.isSome then s.cfg.station.refreshInterval / 4 else s.cfg.station.refreshInterval)

/-- R160, R130: a step with its frames, the walker after it if every port admits the group, and the frames as
refresh entries on each. -/
def stepPlaces (fs : List Frame) (after : Walker) (s : State) : Prop :=
  ((∀ p, walksOn s p → 8 + fs.length ≤ freeRoutine s p) →
    ∃ t, exec .walkerStep s = .next t ∧
      t.walker = { after with stepTimer := stepInterval after.fast s } ∧
      (∀ p, (walksOn s p →
          (t.port p).routine = (s.port p).routine ++ fs.map (⟨·, .refresh, none⟩) ∧
          (t.port p).urgent = (s.port p).urgent ∧ samePortBut s t p) ∧
        (¬walksOn s p → t.port p = s.port p)) ∧
      { t with walker := s.walker, portA := s.portA, portB := s.portB } = s) ∧
  ((∃ p, walksOn s p ∧ freeRoutine s p < 8 + fs.length) →
    exec .walkerStep s
      = .next { s with walker := { s.walker with stepTimer := stepInterval s.walker.fast s } })

/-- R105, R155: an entry for each station with a component in either of two maps, in ascending station number, an
absent component given as 0. -/
def entriesAre (a b : CompMap) (es : List NoticeEntry) : Prop :=
  es.Pairwise (fun x y => x.station < y.station) ∧
  (∀ e ∈ es, e.station ≤ 16 ∧ (e.first ≠ 0 ∨ e.second ≠ 0) ∧
    e.first = CompMap.get a e.station ∧ e.second = CompMap.get b e.station) ∧
  ∀ k, 1 ≤ k → k ≤ 16 → CompMap.get a k ≠ 0 ∨ CompMap.get b k ≠ 0 → ∃ e ∈ es, e.station = k

/-- R155, R157: the entries of the parts: part 0 holds the first five, part 1 the next six and part 2 the rest. -/
def dividedAs (es : List NoticeEntry) : List (List NoticeEntry) :=
  if es.length ≤ 5 then [es]
  else if es.length ≤ 11 then [es.take 5, es.drop 5]
  else [es.take 5, (es.drop 5).take 6, es.drop 11]

/-- R155: the parts of the STATE of a record. -/
def statePartsAre (r : VehicleRecord) (l : List StateNotice) : Prop :=
  ∃ es, entriesAre r.shiftMap r.serviceMap es ∧ l.map StateNotice.entries = dividedAs es ∧
    ∀ (i : Nat) (n : StateNotice), l[i]? = some n →
      n.part = i ∧ n.vehicle = r.vehicle ∧ n.cls = (if r.settled then some r.cls else none) ∧
      n.shift = r.shift ∧ n.generation = r.generation ∧
      n.hours = (if i = 0 then r.hoursAtService else none) ∧
      n.latest = (if i = 0 then r.latestHours else none)

/-- R105, R157: the parts of the STOCK of the tank `k`, whose record is `x`. -/
def stockPartsAre (k : TankId) (x : Tank) (l : List StockNotice) : Prop :=
  ∃ es, entriesAre x.issueMap x.deliveryMap es ∧ l.map StockNotice.entries = dividedAs es ∧
    ∀ (i : Nat) (n : StockNotice), l[i]? = some n →
      n.part = i ∧ n.tank = k ∧ n.period = x.period ∧
      n.opening = (if i = 0 ∧ x.openingPending = false then some x.opening else none) ∧
      n.gauge = (if i = 0 then x.gauge.map fun g => ⟨g.count, g.origin, g.volume⟩ else none)

end Sys2Proof.Machine

/-- The walker: the STOCK of the next tank after sixteen vehicle steps, else the STATE of the next record worth
announcing, wrapping at the table's end; no step without a port, and none that a port does not admit; and what the
parts of a STATE and of a STOCK hold, those of the tank commands among them. A routine entry that a hose waits for
with an ISSUE is not free (log 13). -/
def Obligations.WalkerAnnouncesRecordsAndTanks : Prop :=
  (∀ r : VehicleRecord, statePartsAre r (stateParts r)) ∧
  (∀ (k : TankId) (x : Tank), stockPartsAre k x (stockParts k x)) ∧
  ∀ s : State, s.started = true → s.walker.stepTimer ≠ none →
    let w := s.walker
    let own (kind : BitVec 4) (payload : List Byte) : Frame := ⟨3, s.ownNumber, false, kind, payload⟩
    let stock := (stockParts w.nextTank (s.tank w.nextTank)).map fun n => own 6 n.payload
    let states (r : VehicleRecord) := (stateParts r).map fun n => own 7 n.payload
    let tankStep (wrap : Bool) : Walker :=
      { w with stepCount := 0, nextTank := w.nextTank + 1, fast := w.fast.bind (fastAfter wrap true) }
    let recordStep (wrap : Bool) (r : VehicleRecord) : Walker :=
      { w with
        position := some r.vehicle, stepCount := w.stepCount + 1
        fast := w.fast.bind (fastAfter wrap false) }
    ((∀ p, ¬walksOn s p) → exec .walkerStep s
      = .next { s with walker := { w with stepTimer := stepInterval w.fast s } }) ∧
    ((∃ p, walksOn s p) →
      (w.stepCount = 16 → stepPlaces stock (tankStep false) s) ∧
      (w.stepCount ≠ 16 →
        (∀ r, firstOf (abovePosition s) s r → stepPlaces (states r) (recordStep false r) s) ∧
        ((∀ y ∈ s.vehicles, ¬(worthAnnouncing y ∧ abovePosition s y)) →
          (∀ r, firstOf (fun _ => True) s r → stepPlaces (states r) (recordStep true r) s) ∧
          ((∀ y ∈ s.vehicles, ¬worthAnnouncing y) → stepPlaces stock (tankStep true) s))))

/-! ### Stages, component maps, frames and notices -/

namespace Sys2Proof.Machine

/-- R98: the remaining preset of a hold entry: a peer's preset, and an own one less the present S of its hose. -/
def presetLeft (s : State) (e : HoldEntry) : Nat :=
  if e.station = s.ownNumber then e.preset - (s.meter e.hose).s else e.preset

/-- R99: the hold entries on a tank as its effective stock takes them: each with its preset, its age aside, and with
the present S of its hose if it is an own entry. -/
def holdsOn (k : TankId) (s : State) : List (HoldEntry × Nat) :=
  (s.holds.filter fun e => decide (e.tank = k)).map fun e =>
    ({ e with age := 0 }, if e.station = s.ownNumber then (s.meter e.hose).s else 0)

/-- R99: no input of a tank's effective stock has changed from `s` to `u`: the opening and its pending mark, both maps,
the gauge with its snapshots, and the hold entries on the tank with the S of their own hoses. -/
abbrev sameStock (k : TankId) (s u : State) : Prop :=
  (u.tank k).opening = (s.tank k).opening ∧ (u.tank k).openingPending = (s.tank k).openingPending ∧
    (u.tank k).issueMap = (s.tank k).issueMap ∧ (u.tank k).deliveryMap = (s.tank k).deliveryMap ∧
    (u.tank k).gauge = (s.tank k).gauge ∧ holdsOn k u = holdsOn k s

/-- R99: a tank derives its stage at the end of an event that has taken `s` to `u`: the event's rule names it, or one
of its inputs has changed. -/
abbrev derives (named : Option TankId) (s u : State) (k : TankId) : Prop :=
  named = some k ∨ ¬sameStock k s u

/-- R101: the CUTOFF signal of a tank reaches a hose in HOLDING. -/
abbrev endsHolding (k : TankId) (c : HoseCfg) (x : Hose) : Prop :=
  c.fitted = true ∧ c.tank = k ∧ x.state = .holding

/-- R101: the CUTOFF signal of a tank reaches a hose in issue. -/
abbrev cutsIssue (k : TankId) (c : HoseCfg) (x : Hose) : Prop :=
  c.fitted = true ∧ c.tank = k ∧ (x.state = .running ∨ x.state = .slowing ∨ x.state = .paused)

/-- R101: the CUTOFF signal of a tank has no effect on a hose: it is another tank's, or neither in HOLDING nor in
issue. -/
def notReached (k : TankId) (c : HoseCfg) (x : Hose) : Prop :=
  c.fitted = false ∨ c.tank ≠ k ∨
    (x.state ≠ .holding ∧ x.state ≠ .running ∧ x.state ≠ .slowing ∧ x.state ≠ .paused)

/-- R4, R11, R15, R17: what a hose that was as in `u` and is as in `t` reports when the CUTOFF signal of the tank `k`
reaches it. -/
def cutoffReport (k : TankId) (u t : State) (h : HoseId) : List (Nat × EventDetail) :=
  let x := u.hose h
  let y := t.hose h
  if endsHolding k (u.hoseCfg h) x then
    [(h.val, .hoseState .ended .holding)]
      ++ x.dispense.toList.map (fun d => (h.val, .dispenseEnd (zeroRecord h d .cutoff u)))
      ++ if y.state = .ended then [] else [(h.val, .hoseState y.state .ended)]
  else if cutsIssue k (u.hoseCfg h) x then [(h.val, .hoseState .closing x.state)]
  else []

/-- R15, R101: a hose in issue that was as in `u` is closed with end reason CUTOFF. -/
def closedByCutoff (h : HoseId) (u t : State) : Prop :=
  let x := u.hose h
  { t.hose h with reserved := x.reserved } =
    { x with
      state := .closing, pump := false, mainValve := false, slowValve := false
      dispense := x.dispense.map fun d => { d with endReason := some .cutoff }
      timers := { x.timers with
        noFlow := none, duration := none, tagReturn := none
        afterFlow := some ((u.hoseCfg h).afterFlow * 100) } } ∧
    lampAsked h .amber t ∧ (t.tag h).mode = .quiet ∧ t.meter h = u.meter h

/-- R11, R19, R101: a dispense of a hose in HOLDING that was as in `u` is ended with end reason CUTOFF; the hose stays in
ENDED while its nozzle is lifted or it owes its ISSUE. -/
def endedByCutoff (h : HoseId) (d : Dispense) (u t : State) : Prop :=
  let x := u.hose h
  let y := t.hose h
  endedAtZero .cutoff d x y ∧ y.last = some (zeroRecord h d .cutoff u) ∧
    y.state = (if x.lifted = true ∨ y.pendingIssue ≠ ⟨false, false⟩ then .ended
      else if x.outOfService then .disabled else .idle) ∧
    y.outOfService = x.outOfService ∧ y.lateVolume = (u.meter h).g ∧ y.leakReported = false ∧
    (t.meter h).lateActive = true ∧ (t.meter h).carried = (u.meter h).g ∧ (t.meter h).latePulses = 0

/-- R99, R101: the entry of the tank `k` to CUTOFF takes the state `u` to `t`: STAGE_CHANGE first, then the hoses that the
signal reaches, in ascending number, and nothing but what their endings change. -/
def entersCutoff (k : TankId) (u t : State) : Prop :=
  let v := posted k.val (.stageChange .cutoff (u.tank k).stage (effectiveStock u k))
    (withTank k { u.tank k with stage := .cutoff } u)
  ((∀ h, notReached k (u.hoseCfg h) (u.hose h)) → t = v) ∧
  t.console = (allPosted ([0, 1, 2, 3].flatMap (cutoffReport k u t)) v).console ∧
  (∀ h,
    (cutsIssue k (u.hoseCfg h) (u.hose h) → closedByCutoff h u t) ∧
    (∀ d, endsHolding k (u.hoseCfg h) (u.hose h) → (u.hose h).dispense = some d →
      endedByCutoff h d u t ∧
      ∀ r, (∀ j, j ≠ h → ¬endsHolding k (u.hoseCfg j) (u.hose j)) →
        (u.hose h).pendingIssue = ⟨false, false⟩ → findVehicle d.vehicle u = some r →
        issueOffered h (issueOf h d 0 r (u.tank d.tank) u) u t) ∧
    (notReached k (u.hoseCfg h) (u.hose h) →
      { t.hose h with reserved := (u.hose h).reserved } = u.hose h ∧ t.tag h = u.tag h ∧
      t.meter h = u.meter h)) ∧
  ((∃ h, ¬notReached k (u.hoseCfg h) (u.hose h)) → alertFollows u t) ∧
  ((∀ h, ¬endsHolding k (u.hoseCfg h) (u.hose h)) →
    (∀ h, (t.hose h).reserved = (u.hose h).reserved) ∧
    { t with hoses := v.hoses, tags := v.tags, console := v.console, alert := v.alert } = v) ∧
  t.holds = u.holds.filter (fun e => decide
    (¬(e.station = u.ownNumber ∧ endsHolding k (u.hoseCfg e.hose) (u.hose e.hose) ∧
      (u.hose e.hose).dispense ≠ none))) ∧
  (∀ c, (∀ h d, endsHolding k (u.hoseCfg h) (u.hose h) → (u.hose h).dispense = some d → d.cls ≠ c) →
    t.classCounters.get c = u.classCounters.get c) ∧
  (∀ p, (t.port p).urgent = (u.port p).urgent ∧ (u.port p).routine <+: (t.port p).routine ∧
    samePortBut u t p ∧ (¬takesNotices u p → t.port p = u.port p)) ∧
  { t with
    hoses := v.hoses, tags := v.tags, meters := v.meters, holds := v.holds
    classCounters := v.classCounters, console := v.console, alert := v.alert
    portA := v.portA, portB := v.portB } = v

end Sys2Proof.Machine

/-- The settling of the stages that ends an event. A tank derives its stage if the event's rule names it or if one of
its inputs has changed: its opening or the pending mark, a map, the gauge or its snapshots, or the hold entries on it
with the S of the own hoses; the tanks that derive do so one after another, and the others keep their stage. One that
changes to another stage reports it. An entry to CUTOFF reports it too, closes the hoses that issue from the tank and
ends the dispenses in HOLDING on it at zero volume; what those had reserved goes to the hoses that wait (log 14), and
the other tanks, the vehicles, the configuration and all else stay. Which tanks derive at all is log 11; the ascending
order of tanks and hoses, STAGE_CHANGE before HOSE_STATE, and HOSE_STATE before DISPENSE_END, are log 12; that the mark of
a hose that has left ENDED stays is log 30; that a routine entry another hose waits for is not free is log 13; and that
no VALVE_LEAK is posted there is log 16. -/
def Obligations.StagesFollowTheEffectiveStock : Prop :=
  (∀ s u : State, (∀ k, sameStock k s u) → settleTanks none s u = u) ∧
  (∀ (named : Option TankId) (s u : State),
    settleTanks named s u =
      ([0, 1, 2, 3].filter fun k => decide (derives named s u k)).foldl
        (fun a k => settleTanks (some k) a a) u) ∧
  (∀ (named : Option TankId) (k : TankId) (s u : State),
    derives named s u k → (∀ j, j ≠ k → ¬derives named s u j) →
    let t := settleTanks named s u
    let old := (u.tank k).stage
    ∃ new, stageFor (u.tankCfg k) old new (effectiveStock u k) ∧ (t.tank k).stage = new ∧
      (new = old → t = u) ∧
      (new ≠ old → new ≠ .cutoff →
        t = posted k.val (.stageChange new old (effectiveStock u k))
          (withTank k { u.tank k with stage := new } u)) ∧
      (new ≠ old → new = .cutoff → entersCutoff k u t)) ∧
  ∀ (s : State) (k : TankId),
    let x := s.tank k
    let issued : Int := CompMap.sum x.issueMap
    let delivered : Int := CompMap.sum x.deliveryMap
    let held : Int := (s.holds.filter fun e => decide (e.tank = k)).map (presetLeft s) |>.sum
    heldAmount s k = held ∧
    let atBook := (x.opening : Int) + delivered - issued
    (∀ g, x.gauge = some g →
      let atGauge := (g.volume : Int) - (issued - g.issuedAt) + (delivered - g.deliveredAt)
      (x.openingPending = true → effectiveStock s k = some (atGauge - held)) ∧
      (x.openingPending = false → effectiveStock s k = some (min atBook atGauge - held))) ∧
    (x.gauge = none →
      (x.openingPending = true → effectiveStock s k = none) ∧
      (x.openingPending = false → effectiveStock s k = some (atBook - held)))

/-- Component maps: a merge keeps the larger value of its own station and leaves the others, keeps the map in
form, and neither its repetition nor the order of two merges makes a difference. -/
def Obligations.ComponentMapsMergeByMaximum : Prop :=
  ∀ m : CompMap, m.wf = true →
    (∀ k x j, CompMap.get (CompMap.merge m k x) j
      = if j = k then max (CompMap.get m k) x else CompMap.get m j) ∧
    (∀ k x, (CompMap.merge m k x).wf = true) ∧
    (∀ k x, CompMap.merge (CompMap.merge m k x) k x = CompMap.merge m k x) ∧
    (∀ k x j y, CompMap.merge (CompMap.merge m k x) j y
      = CompMap.merge (CompMap.merge m j y) k x) ∧
    ∀ k v, (CompMap.put m k v).wf = true ∧ CompMap.get (CompMap.put m k v) k = v

namespace Sys2Proof.Machine

/-- R183: a number in `w` bits, most significant first. -/
def bitsOfField (w n : Nat) : List Bool := (List.range w).reverse.map n.testBit

/-- R185: the check of the input bits: a register that starts at all ones and is shifted left once for each bit, with
0x1021 exclusive-or where the bit differs from the register's bit 15. -/
def checkOf (bits : List Bool) : Half :=
  bits.foldl (fun r b => if b = r.msb then r <<< 1 else (r <<< 1) ^^^ 0x1021) 0xFFFF

/-- R184, R185: the kind, the length and the payload of a frame as bits. -/
def checkedBits (f : Frame) : List Bool :=
  bitsOfField 4 f.kind.toNat ++ bitsOfField 8 f.payload.length ++ f.payload.flatMap bitsHigh

/-- R132, R184: a frame on port A with the check `c`. -/
def frameBits (f : Frame) (c : Half) : List Bool :=
  [false] ++ bitsOfField 2 f.priority.toNat ++ bitsOfField 4 (f.origin - 1) ++ [f.relayed]
    ++ checkedBits f ++ bitsOfField 16 c.toNat ++ List.replicate 8 true

/-- R139, R184: the bytes of a frame on port B with the header `head`, the second byte `second` and the check `c`. -/
def frameBytes (head second : Byte) (payload : List Byte) (c : Half) : List Byte :=
  [head, second] ++ byte1 payload.length ++ payload ++ byte2 c.toNat

/-- R184: the header byte that a port B sends. -/
def headOf (f : Frame) : Byte := f.priority ++ (0 : BitVec 2) ++ BitVec.ofNat 4 (f.origin - 1)

/-- R184: the second byte that a port B sends. -/
def secondOf (f : Frame) : Byte := BitVec.ofBool f.relayed ++ (0 : BitVec 3) ++ f.kind

/-- R185: the check of a frame on port B under the header `head`. -/
def checkB (head : Byte) (f : Frame) : Half := checkOf (bitsHigh head ++ checkedBits f)

/-- R142: bytes on port B that begin with the bytes `bs`, each with its stop bit high and no gap before any but the
first. -/
def beginsWith (bs : List Byte) (line : List LineByte) : Prop :=
  bs <+: line.map LineByte.data ∧ (∀ x ∈ line.take bs.length, x.stopHigh = true) ∧
    ∀ x ∈ (line.take bs.length).tail, x.gapBefore = false

/-- R125: a frame of a station 1 to 16 with at most 64 payload bytes. -/
def frameFits (f : Frame) : Prop := 1 ≤ f.origin ∧ f.origin ≤ 16 ∧ f.payload.length ≤ 64

end Sys2Proof.Machine

/-- The frames of both ports. What a port sends for a frame, bit by bit or byte by byte with the check computed over
its fields, it reads back as that frame; with any other check in its place it takes nothing; and a port takes a frame
from a line only if the line begins with that frame's bits on port A, or on port B with bytes that hold it, in which
the unused bits of the first two are of no account. A byte goes least significant bit first on port B and on the tag
links, where it has a parity bit, and most significant bit first on the console lines. -/
def Obligations.FramesReadBackAsTheyWereSent : Prop :=
  (∀ f : Frame, frameFits f →
    encodeA f = frameBits f (checkOf (checkedBits f)) ∧
    (encodeA f).length = 44 + 8 * f.payload.length ∧
    encodeB f = frameBytes (headOf f) (secondOf f) f.payload (checkB (headOf f) f) ∧
    decodeA (encodeA f) = some f ∧ decodeB (onLineB (encodeB f)) = some f ∧
    (∀ c, c ≠ checkOf (checkedBits f) → decodeA (frameBits f c) = none) ∧
    ∀ c, c ≠ checkB (headOf f) f →
      decodeB (onLineB (frameBytes (headOf f) (secondOf f) f.payload c)) = none) ∧
  (∀ (bits : List Bool) (f : Frame), decodeA bits = some f ↔ frameFits f ∧ encodeA f <+: bits) ∧
  (∀ (line : List LineByte) (f : Frame), decodeB line = some f ↔
    frameFits f ∧ ∃ head second : Byte,
      head.extractLsb' 6 2 = f.priority ∧ (head.extractLsb' 0 4).toNat = f.origin - 1 ∧
      second.msb = f.relayed ∧ second.extractLsb' 0 4 = f.kind ∧
      beginsWith (frameBytes head second f.payload (checkB head f)) line) ∧
  (∀ x : TagByte, x.levels.toList = [0, 1, 2, 3, 4, 5, 6, 7].map (tagData x).getLsbD ∧
    (goodByte x = true ↔ soundByte x)) ∧
  ∀ (b : Byte) (gap : Bool),
    let rising := [0, 1, 2, 3, 4, 5, 6, 7].map b.getLsbD
    tagBits (onTagLink b gap) = framedByte b ∧ tagData (onTagLink b gap) = b ∧
      goodByte (onTagLink b gap) = true ∧ (onLine b gap).levels.toList = rising ∧
      lineBitsB b = [false] ++ rising ++ [true] ∧
      (onLine b gap).data = b ∧ spiBits b = bitsHigh b ∧ spiByte (bitsHigh b) = b

namespace Sys2Proof.Machine

/-- A vehicle number that a notice may name. -/
def noticeVehicle (v : Nat) : Prop := v ≠ 0 ∧ v < 65535

/-- Hours in range, if present. -/
def hoursFit (x : Option Nat) : Prop := ∀ n, x = some n → n ≤ 99999999

/-- Entries that a part may carry. -/
def entriesFit (part : Nat) (es : List NoticeEntry) : Prop :=
  part ≤ 2 ∧ es.length ≤ (if part = 0 then 5 else 6) ∧
    ∀ e ∈ es, 1 ≤ e.station ∧ e.station ≤ 16 ∧ e.first ≤ 4294967295 ∧ e.second ≤ 4294967295

/-- R149: the field of `w` bytes at the place `i` of a payload, most significant byte first; a byte beyond its end
reads as 0. -/
def fieldAt (bs : List Byte) (i w : Nat) : Nat :=
  (List.range w).foldl (fun n j => 256 * n + (bs.getD (i + j) 0).toNat) 0

/-- R186: the presence byte at the place `i` marks a field: bit 0 class, bit 1 hours at service, bit 2 latest hours,
bit 3 opening, bit 4 gauge. -/
def marksField (bs : List Byte) (i bit : Nat) : Bool := (bs.getD i 0).getLsbD bit

/-- R150: the presence byte at the place `i` has no mark but the bits `assigned`. -/
def marksOnly (bs : List Byte) (i : Nat) (assigned : List Nat) : Prop :=
  ∀ bit, bit < 8 → marksField bs i bit = true → bit ∈ assigned

/-- R149: an optional field of `w` bytes, which takes bytes only when it is present. -/
def takesBytes (present : Bool) (w : Nat) : Nat := if present then w else 0

/-- R149: an optional field of four bytes at the place `i`. -/
def optionalAt (present : Bool) (bs : List Byte) (i : Nat) : Option Nat :=
  if present then some (fieldAt bs i 4) else none

/-- R150: a vehicle number that no notice may name. -/
abbrev noVehicle (v : Nat) : Prop := v = 0 ∨ v = 65535

/-- R150: hours out of range. -/
def hoursBeyond (x : Option Nat) : Prop := ∃ n, x = some n ∧ 99999999 < n

/-- R149, R186: the entries of a part from the place `i` on; one that the payload's end cuts off reads as all zero. -/
def entriesAt (bs : List Byte) (i count : Nat) : List NoticeEntry :=
  (List.range count).map fun j =>
    let k := i + 9 * j
    if bs.length < k + 9 then ⟨0, 0, 0⟩ else ⟨fieldAt bs k 1, fieldAt bs (k + 1) 4, fieldAt bs (k + 5) 4⟩

/-- R150: a part with an index or a count out of range, with a field of part 0 in another part, or with an entry of a
station 0 or above 16. -/
def badPart (part count : Nat) (optional : Bool) (es : List NoticeEntry) : Prop :=
  2 < part ∨ (if part = 0 then 5 else 6) < count ∨ (part ≠ 0 ∧ optional = true) ∨
    ∃ e ∈ es, e.station = 0 ∨ 16 < e.station

/-- A reader of payloads: nothing of a payload that is not valid, and its fields otherwise. -/
def readsAs {α : Type} (x : Option α) (invalid : Prop) (fields : α → Prop) : Prop :=
  (invalid → x = none) ∧ (¬invalid → ∃ n, x = some n ∧ fields n)

/-- R150, R186: the reading of a HOLD. -/
def holdReadRight (bs : List Byte) : Prop :=
  readsAs (readHold bs)
    (noVehicle (fieldAt bs 0 2) ∨ 3 < fieldAt bs 2 1 ∨ 3 < fieldAt bs 6 1)
    fun n => n.vehicle = fieldAt bs 0 2 ∧ n.hose.val = fieldAt bs 2 1 ∧ n.number = fieldAt bs 3 1 ∧
      n.shift = fieldAt bs 4 2 ∧ n.tank.val = fieldAt bs 6 1 ∧ n.preset = fieldAt bs 7 4

/-- R150, R186: the reading of a SERVICE. -/
def serviceReadRight (bs : List Byte) : Prop :=
  let hours := optionalAt (marksField bs 2 1) bs 5
  readsAs (readService bs)
    (noVehicle (fieldAt bs 0 2) ∨ ¬marksOnly bs 2 [1] ∨ hoursBeyond hours)
    fun n => n.vehicle = fieldAt bs 0 2 ∧ n.generation = fieldAt bs 3 2 ∧ n.hours = hours

/-- R150, R186: the reading of an ISSUE. -/
def issueReadRight (bs : List Byte) : Prop :=
  let i := 3 + takesBytes (marksField bs 2 0) 1
  let latest := optionalAt (marksField bs 2 2) bs (i + 21)
  let own := fieldAt bs (i + 17) 4
  let service := fieldAt bs (i + 10) 4
  let volume := fieldAt bs (i + 21 + takesBytes (marksField bs 2 2) 4) 4
  readsAs (readIssue bs)
    (noVehicle (fieldAt bs 0 2) ∨ ¬marksOnly bs 2 [0, 2] ∨ 3 < fieldAt bs i 1 ∨
      3 < fieldAt bs (i + 14) 1 ∨ (marksField bs 2 0 = true ∧ 7 < fieldAt bs 3 1) ∨
      hoursBeyond latest ∨ own < volume ∨ service < volume)
    fun n => n.vehicle = fieldAt bs 0 2 ∧
      n.cls.map Fin.val = (if marksField bs 2 0 then some (fieldAt bs 3 1) else none) ∧
      n.hose.val = fieldAt bs i 1 ∧ n.number = fieldAt bs (i + 1) 1 ∧ n.shift = fieldAt bs (i + 2) 2 ∧
      n.ownShift = fieldAt bs (i + 4) 4 ∧ n.generation = fieldAt bs (i + 8) 2 ∧
      n.ownService = service ∧ n.tank.val = fieldAt bs (i + 14) 1 ∧ n.period = fieldAt bs (i + 15) 2 ∧
      n.ownIssue = own ∧ n.latest = latest ∧ n.volume = volume

/-- R150, R186: the reading of a STATE part. -/
def stateReadRight (bs : List Byte) : Prop :=
  let i := 3 + takesBytes (marksField bs 2 0) 1
  let hours := optionalAt (marksField bs 2 1) bs (i + 4)
  let j := i + 4 + takesBytes (marksField bs 2 1) 4
  let latest := optionalAt (marksField bs 2 2) bs j
  let k := j + takesBytes (marksField bs 2 2) 4
  let entries := entriesAt bs (k + 2) (fieldAt bs (k + 1) 1)
  readsAs (readState bs)
    (noVehicle (fieldAt bs 0 2) ∨ ¬marksOnly bs 2 [0, 1, 2] ∨
      (marksField bs 2 0 = true ∧ 7 < fieldAt bs 3 1) ∨ hoursBeyond hours ∨ hoursBeyond latest ∨
      badPart (fieldAt bs k 1) (fieldAt bs (k + 1) 1) (marksField bs 2 1 || marksField bs 2 2) entries)
    fun n => n.vehicle = fieldAt bs 0 2 ∧
      n.cls.map Fin.val = (if marksField bs 2 0 then some (fieldAt bs 3 1) else none) ∧
      n.shift = fieldAt bs i 2 ∧ n.generation = fieldAt bs (i + 2) 2 ∧ n.hours = hours ∧
      n.latest = latest ∧ n.part = fieldAt bs k 1 ∧ n.entries = entries

/-- R150, R186: the reading of a STOCK part. -/
def stockReadRight (bs : List Byte) : Prop :=
  let opening := optionalAt (marksField bs 3 3) bs 4
  let i := 4 + takesBytes (marksField bs 3 3) 4
  let gauge : Option NoticeGauge :=
    if marksField bs 3 4 then some ⟨fieldAt bs i 2, fieldAt bs (i + 2) 1, fieldAt bs (i + 3) 4⟩
    else none
  let k := i + takesBytes (marksField bs 3 4) 7
  let entries := entriesAt bs (k + 2) (fieldAt bs (k + 1) 1)
  readsAs (readStock bs)
    (3 < fieldAt bs 0 1 ∨ ¬marksOnly bs 3 [3, 4] ∨
      (∃ g, gauge = some g ∧ (g.count = 0 ∨ g.origin = 0 ∨ 16 < g.origin)) ∨
      badPart (fieldAt bs k 1) (fieldAt bs (k + 1) 1) (marksField bs 3 3 || marksField bs 3 4) entries)
    fun n => n.tank.val = fieldAt bs 0 1 ∧ n.period = fieldAt bs 1 2 ∧ n.opening = opening ∧
      n.gauge = gauge ∧ n.part = fieldAt bs k 1 ∧ n.entries = entries

end Sys2Proof.Machine

/-- The payload of a notice, read back, is that notice: of every kind, ROLLCALL and SHIFT, which carry σ alone, among
them. Of any payload a reader gives the fields at their places, bytes beyond its end read as 0, or nothing if one of
them is out of the ranges of R150; an entry of a part that the end cuts off reads as all zero. -/
def Obligations.NoticesReadBackAsTheyWereBuilt : Prop :=
  (∀ s : State, s.sigma ≤ 65535 →
    carriedShift (rollcallFrame s) = s.sigma ∧ carriedShift (shiftFrame s) = s.sigma ∧
    readShift (rollcallFrame s).payload = s.sigma ∧ readShift (shiftFrame s).payload = s.sigma) ∧
  (∀ bs : List Byte, readShift bs = fieldAt bs 0 2 ∧ holdReadRight bs ∧ serviceReadRight bs ∧
    issueReadRight bs ∧ stateReadRight bs ∧ stockReadRight bs) ∧
  (∀ n : HoldNotice, noticeVehicle n.vehicle → n.number ≤ 255 → n.shift ≤ 65535 →
    n.preset ≤ 4294967295 → readHold n.payload = some n) ∧
  (∀ n : ServiceNotice, noticeVehicle n.vehicle → n.generation ≤ 65535 → hoursFit n.hours →
    readService n.payload = some n) ∧
  (∀ n : IssueNotice, noticeVehicle n.vehicle → n.number ≤ 255 → n.shift ≤ 65535 →
    n.ownShift ≤ 4294967295 → n.generation ≤ 65535 → n.ownService ≤ 4294967295 →
    n.period ≤ 65535 → n.ownIssue ≤ 4294967295 → hoursFit n.latest → n.volume ≤ n.ownIssue →
    n.volume ≤ n.ownService → readIssue n.payload = some n) ∧
  (∀ n : StateNotice, noticeVehicle n.vehicle → n.shift ≤ 65535 → n.generation ≤ 65535 →
    hoursFit n.hours → hoursFit n.latest → entriesFit n.part n.entries →
    (n.part = 0 ∨ (n.hours = none ∧ n.latest = none)) → readState n.payload = some n) ∧
  (∀ n : StockNotice, n.period ≤ 65535 → (∀ x, n.opening = some x → x ≤ 4294967295) →
    (∀ g, n.gauge = some g → 1 ≤ g.count ∧ g.count ≤ 65535 ∧ 1 ≤ g.origin ∧ g.origin ≤ 16 ∧
      g.volume ≤ 4294967295) →
    entriesFit n.part n.entries → (n.part = 0 ∨ (n.opening = none ∧ n.gauge = none)) →
    readStock n.payload = some n)

/-! ### What every step keeps -/

namespace Sys2Proof.Machine

/-- A property that every step keeps. -/
def keptByEveryStep (inv : State → Prop) : Prop := ∀ s t, inv s → step s = .next t → inv t

end Sys2Proof.Machine

/-- Every step keeps the outputs of each hose in agreement with its state. -/
def Obligations.EveryStepKeepsTheOutputsWithTheStates : Prop := keptByEveryStep outputsFollow

/-- Every step keeps the event queue, the events-lost count and the FIFOs within their sizes, and the interrupt
line in agreement with the queue and the result. -/
def Obligations.EveryStepKeepsTheConsoleAndTheFifos : Prop :=
  keptByEveryStep fun s => eventsBounded s ∧ interruptFollows s ∧ fifosBounded s

/-- Every step keeps the vehicle table in order and within 320 records, no record's shift above σ, and at most
one hold entry for each station and hose. -/
def Obligations.EveryStepKeepsTheTables : Prop :=
  keptByEveryStep fun s => tableOrdered s ∧ shiftsBelow s ∧ holdListOrdered s

/-- Every step keeps the hoses, the tanks and the ports coherent: DISABLED in CONFIG, dispenses open in the
states that have one, no issue from a tank in CUTOFF, ports in OFF in CONFIG, and silent ports empty. -/
def Obligations.EveryStepKeepsTheStationCoherent : Prop := keptByEveryStep coherent

/-- Every step keeps the lines of the tag links in agreement with their conditions: SENDING exactly while a command
is in flight, whose bits are held and whose timer runs then, HELD or OPEN as the conditions call for, and the gap
timer running exactly while a message is in progress. -/
def Obligations.EveryStepKeepsTheTagLines : Prop := keptByEveryStep tagLinesFollow

/-- The state after power-on reset has all of these properties. -/
def Obligations.ResetHasTheKeptProperties : Prop :=
  outputsFollow State.reset ∧ eventsBounded State.reset ∧ interruptFollows State.reset ∧
    fifosBounded State.reset ∧ tableOrdered State.reset ∧ shiftsBelow State.reset ∧
    holdListOrdered State.reset ∧ coherent State.reset ∧ tagLinesFollow State.reset
end

