-- ==== Sys2Proof/Laws/State.lean ====
section
/-!
SUPPORT. The field lemmas of the state: what a write of one part leaves in it and in every other part.

Each is true by unfolding one record update, so a later proof never unfolds one. The writes are those of
Machine/Ops.lean; a write of a fixed-size collection is followed by the lemmas of `Quad` and `Oct`.
-/

namespace Sys2Proof

/-! ### The fixed-size collections -/

@[simp] theorem Quad.get_set_same {α : Type} (q : Quad α) (i : Fin 4) (x : α) : (q.set i x).get i = x := by
  match i with
  | 0 | 1 | 2 | 3 => rfl

theorem Quad.get_set_ne {α : Type} (q : Quad α) (i j : Fin 4) (x : α) (h : j ≠ i) :
    (q.set i x).get j = q.get j := by
  match i, j with
  | 0, 0 | 1, 1 | 2, 2 | 3, 3 => exact absurd rfl h
  | 0, 1 | 0, 2 | 0, 3 | 1, 0 | 1, 2 | 1, 3 | 2, 0 | 2, 1 | 2, 3 | 3, 0 | 3, 1 | 3, 2 => rfl

@[simp] theorem Quad.get_all {α : Type} (x : α) (i : Fin 4) : (Quad.all x).get i = x := by
  match i with
  | 0 | 1 | 2 | 3 => rfl

@[simp] theorem Quad.get_map {α β : Type} (q : Quad α) (f : α → β) (i : Fin 4) :
    (q.map f).get i = f (q.get i) := by
  match i with
  | 0 | 1 | 2 | 3 => rfl

@[simp] theorem Quad.set_get {α : Type} (q : Quad α) (i : Fin 4) : q.set i (q.get i) = q := by
  match i with
  | 0 | 1 | 2 | 3 => rfl

@[simp] theorem Oct.get_set_same {α : Type} (o : Oct α) (i : Fin 8) (x : α) : (o.set i x).get i = x := by
  match i with
  | 0 | 1 | 2 | 3 | 4 | 5 | 6 | 7 => rfl

theorem Oct.get_set_ne {α : Type} (o : Oct α) (i j : Fin 8) (x : α) (h : j ≠ i) :
    (o.set i x).get j = o.get j := by
  revert h
  match i with
  | 0 | 1 | 2 | 3 | 4 | 5 | 6 | 7 =>
    match j with
    | 0 | 1 | 2 | 3 | 4 | 5 | 6 | 7 => intro h; first | rfl | exact absurd rfl h

@[simp] theorem Oct.get_all {α : Type} (x : α) (i : Fin 8) : (Oct.all x).get i = x := by
  match i with
  | 0 | 1 | 2 | 3 | 4 | 5 | 6 | 7 => rfl

namespace Machine

/-! ### What each write leaves in the part that it writes -/

@[simp] theorem State.modHose_hoses (s : State) (h : HoseId) (f : Hose → Hose) :
    (s.modHose h f).hoses = s.hoses.set h (f (s.hoses.get h)) := rfl
@[simp] theorem State.modMeter_meters (s : State) (h : HoseId) (f : Meter → Meter) :
    (s.modMeter h f).meters = s.meters.set h (f (s.meters.get h)) := rfl
@[simp] theorem State.modTag_tags (s : State) (h : HoseId) (f : TagLink → TagLink) :
    (s.modTag h f).tags = s.tags.set h (f (s.tags.get h)) := rfl
@[simp] theorem State.modTank_tanks (s : State) (t : TankId) (f : Tank → Tank) :
    (s.modTank t f).tanks = s.tanks.set t (f (s.tanks.get t)) := rfl
@[simp] theorem State.modConsole_console (s : State) (f : Console → Console) :
    (s.modConsole f).console = f s.console := rfl
@[simp] theorem State.modWalker_walker (s : State) (f : Walker → Walker) :
    (s.modWalker f).walker = f s.walker := rfl

/-! ### `modHose` -/

@[simp] theorem State.modHose_started (s : State) (h : HoseId) (f : Hose → Hose) :
    (s.modHose h f).started = s.started := rfl
@[simp] theorem State.modHose_cfg (s : State) (h : HoseId) (f : Hose → Hose) :
    (s.modHose h f).cfg = s.cfg := rfl
@[simp] theorem State.modHose_tick (s : State) (h : HoseId) (f : Hose → Hose) :
    (s.modHose h f).tick = s.tick := rfl
@[simp] theorem State.modHose_holdCounter (s : State) (h : HoseId) (f : Hose → Hose) :
    (s.modHose h f).holdCounter = s.holdCounter := rfl
@[simp] theorem State.modHose_meters (s : State) (h : HoseId) (f : Hose → Hose) :
    (s.modHose h f).meters = s.meters := rfl
@[simp] theorem State.modHose_tags (s : State) (h : HoseId) (f : Hose → Hose) :
    (s.modHose h f).tags = s.tags := rfl
@[simp] theorem State.modHose_vehicles (s : State) (h : HoseId) (f : Hose → Hose) :
    (s.modHose h f).vehicles = s.vehicles := rfl
@[simp] theorem State.modHose_sigma (s : State) (h : HoseId) (f : Hose → Hose) :
    (s.modHose h f).sigma = s.sigma := rfl
@[simp] theorem State.modHose_tableFullTick (s : State) (h : HoseId) (f : Hose → Hose) :
    (s.modHose h f).tableFullTick = s.tableFullTick := rfl
@[simp] theorem State.modHose_tanks (s : State) (h : HoseId) (f : Hose → Hose) :
    (s.modHose h f).tanks = s.tanks := rfl
@[simp] theorem State.modHose_holds (s : State) (h : HoseId) (f : Hose → Hose) :
    (s.modHose h f).holds = s.holds := rfl
@[simp] theorem State.modHose_holdExpiries (s : State) (h : HoseId) (f : Hose → Hose) :
    (s.modHose h f).holdExpiries = s.holdExpiries := rfl
@[simp] theorem State.modHose_portA (s : State) (h : HoseId) (f : Hose → Hose) :
    (s.modHose h f).portA = s.portA := rfl
@[simp] theorem State.modHose_portB (s : State) (h : HoseId) (f : Hose → Hose) :
    (s.modHose h f).portB = s.portB := rfl
@[simp] theorem State.modHose_walker (s : State) (h : HoseId) (f : Hose → Hose) :
    (s.modHose h f).walker = s.walker := rfl
@[simp] theorem State.modHose_console (s : State) (h : HoseId) (f : Hose → Hose) :
    (s.modHose h f).console = s.console := rfl
@[simp] theorem State.modHose_classCounters (s : State) (h : HoseId) (f : Hose → Hose) :
    (s.modHose h f).classCounters = s.classCounters := rfl
@[simp] theorem State.modHose_hoseCounters (s : State) (h : HoseId) (f : Hose → Hose) :
    (s.modHose h f).hoseCounters = s.hoseCounters := rfl
@[simp] theorem State.modHose_alert (s : State) (h : HoseId) (f : Hose → Hose) :
    (s.modHose h f).alert = s.alert := rfl
@[simp] theorem State.modHose_pending (s : State) (h : HoseId) (f : Hose → Hose) :
    (s.modHose h f).pending = s.pending := rfl

/-! ### `modMeter` -/

@[simp] theorem State.modMeter_started (s : State) (h : HoseId) (f : Meter → Meter) :
    (s.modMeter h f).started = s.started := rfl
@[simp] theorem State.modMeter_cfg (s : State) (h : HoseId) (f : Meter → Meter) :
    (s.modMeter h f).cfg = s.cfg := rfl
@[simp] theorem State.modMeter_tick (s : State) (h : HoseId) (f : Meter → Meter) :
    (s.modMeter h f).tick = s.tick := rfl
@[simp] theorem State.modMeter_hoses (s : State) (h : HoseId) (f : Meter → Meter) :
    (s.modMeter h f).hoses = s.hoses := rfl
@[simp] theorem State.modMeter_holdCounter (s : State) (h : HoseId) (f : Meter → Meter) :
    (s.modMeter h f).holdCounter = s.holdCounter := rfl
@[simp] theorem State.modMeter_tags (s : State) (h : HoseId) (f : Meter → Meter) :
    (s.modMeter h f).tags = s.tags := rfl
@[simp] theorem State.modMeter_vehicles (s : State) (h : HoseId) (f : Meter → Meter) :
    (s.modMeter h f).vehicles = s.vehicles := rfl
@[simp] theorem State.modMeter_sigma (s : State) (h : HoseId) (f : Meter → Meter) :
    (s.modMeter h f).sigma = s.sigma := rfl
@[simp] theorem State.modMeter_tableFullTick (s : State) (h : HoseId) (f : Meter → Meter) :
    (s.modMeter h f).tableFullTick = s.tableFullTick := rfl
@[simp] theorem State.modMeter_tanks (s : State) (h : HoseId) (f : Meter → Meter) :
    (s.modMeter h f).tanks = s.tanks := rfl
@[simp] theorem State.modMeter_holds (s : State) (h : HoseId) (f : Meter → Meter) :
    (s.modMeter h f).holds = s.holds := rfl
@[simp] theorem State.modMeter_holdExpiries (s : State) (h : HoseId) (f : Meter → Meter) :
    (s.modMeter h f).holdExpiries = s.holdExpiries := rfl
@[simp] theorem State.modMeter_portA (s : State) (h : HoseId) (f : Meter → Meter) :
    (s.modMeter h f).portA = s.portA := rfl
@[simp] theorem State.modMeter_portB (s : State) (h : HoseId) (f : Meter → Meter) :
    (s.modMeter h f).portB = s.portB := rfl
@[simp] theorem State.modMeter_walker (s : State) (h : HoseId) (f : Meter → Meter) :
    (s.modMeter h f).walker = s.walker := rfl
@[simp] theorem State.modMeter_console (s : State) (h : HoseId) (f : Meter → Meter) :
    (s.modMeter h f).console = s.console := rfl
@[simp] theorem State.modMeter_classCounters (s : State) (h : HoseId) (f : Meter → Meter) :
    (s.modMeter h f).classCounters = s.classCounters := rfl
@[simp] theorem State.modMeter_hoseCounters (s : State) (h : HoseId) (f : Meter → Meter) :
    (s.modMeter h f).hoseCounters = s.hoseCounters := rfl
@[simp] theorem State.modMeter_alert (s : State) (h : HoseId) (f : Meter → Meter) :
    (s.modMeter h f).alert = s.alert := rfl
@[simp] theorem State.modMeter_pending (s : State) (h : HoseId) (f : Meter → Meter) :
    (s.modMeter h f).pending = s.pending := rfl

/-! ### `modTag` -/

@[simp] theorem State.modTag_started (s : State) (h : HoseId) (f : TagLink → TagLink) :
    (s.modTag h f).started = s.started := rfl
@[simp] theorem State.modTag_cfg (s : State) (h : HoseId) (f : TagLink → TagLink) :
    (s.modTag h f).cfg = s.cfg := rfl
@[simp] theorem State.modTag_tick (s : State) (h : HoseId) (f : TagLink → TagLink) :
    (s.modTag h f).tick = s.tick := rfl
@[simp] theorem State.modTag_hoses (s : State) (h : HoseId) (f : TagLink → TagLink) :
    (s.modTag h f).hoses = s.hoses := rfl
@[simp] theorem State.modTag_holdCounter (s : State) (h : HoseId) (f : TagLink → TagLink) :
    (s.modTag h f).holdCounter = s.holdCounter := rfl
@[simp] theorem State.modTag_meters (s : State) (h : HoseId) (f : TagLink → TagLink) :
    (s.modTag h f).meters = s.meters := rfl
@[simp] theorem State.modTag_vehicles (s : State) (h : HoseId) (f : TagLink → TagLink) :
    (s.modTag h f).vehicles = s.vehicles := rfl
@[simp] theorem State.modTag_sigma (s : State) (h : HoseId) (f : TagLink → TagLink) :
    (s.modTag h f).sigma = s.sigma := rfl
@[simp] theorem State.modTag_tableFullTick (s : State) (h : HoseId) (f : TagLink → TagLink) :
    (s.modTag h f).tableFullTick = s.tableFullTick := rfl
@[simp] theorem State.modTag_tanks (s : State) (h : HoseId) (f : TagLink → TagLink) :
    (s.modTag h f).tanks = s.tanks := rfl
@[simp] theorem State.modTag_holds (s : State) (h : HoseId) (f : TagLink → TagLink) :
    (s.modTag h f).holds = s.holds := rfl
@[simp] theorem State.modTag_holdExpiries (s : State) (h : HoseId) (f : TagLink → TagLink) :
    (s.modTag h f).holdExpiries = s.holdExpiries := rfl
@[simp] theorem State.modTag_portA (s : State) (h : HoseId) (f : TagLink → TagLink) :
    (s.modTag h f).portA = s.portA := rfl
@[simp] theorem State.modTag_portB (s : State) (h : HoseId) (f : TagLink → TagLink) :
    (s.modTag h f).portB = s.portB := rfl
@[simp] theorem State.modTag_walker (s : State) (h : HoseId) (f : TagLink → TagLink) :
    (s.modTag h f).walker = s.walker := rfl
@[simp] theorem State.modTag_console (s : State) (h : HoseId) (f : TagLink → TagLink) :
    (s.modTag h f).console = s.console := rfl
@[simp] theorem State.modTag_classCounters (s : State) (h : HoseId) (f : TagLink → TagLink) :
    (s.modTag h f).classCounters = s.classCounters := rfl
@[simp] theorem State.modTag_hoseCounters (s : State) (h : HoseId) (f : TagLink → TagLink) :
    (s.modTag h f).hoseCounters = s.hoseCounters := rfl
@[simp] theorem State.modTag_alert (s : State) (h : HoseId) (f : TagLink → TagLink) :
    (s.modTag h f).alert = s.alert := rfl
@[simp] theorem State.modTag_pending (s : State) (h : HoseId) (f : TagLink → TagLink) :
    (s.modTag h f).pending = s.pending := rfl

/-! ### `modTank` -/

@[simp] theorem State.modTank_started (s : State) (k : TankId) (f : Tank → Tank) :
    (s.modTank k f).started = s.started := rfl
@[simp] theorem State.modTank_cfg (s : State) (k : TankId) (f : Tank → Tank) :
    (s.modTank k f).cfg = s.cfg := rfl
@[simp] theorem State.modTank_tick (s : State) (k : TankId) (f : Tank → Tank) :
    (s.modTank k f).tick = s.tick := rfl
@[simp] theorem State.modTank_hoses (s : State) (k : TankId) (f : Tank → Tank) :
    (s.modTank k f).hoses = s.hoses := rfl
@[simp] theorem State.modTank_holdCounter (s : State) (k : TankId) (f : Tank → Tank) :
    (s.modTank k f).holdCounter = s.holdCounter := rfl
@[simp] theorem State.modTank_meters (s : State) (k : TankId) (f : Tank → Tank) :
    (s.modTank k f).meters = s.meters := rfl
@[simp] theorem State.modTank_tags (s : State) (k : TankId) (f : Tank → Tank) :
    (s.modTank k f).tags = s.tags := rfl
@[simp] theorem State.modTank_vehicles (s : State) (k : TankId) (f : Tank → Tank) :
    (s.modTank k f).vehicles = s.vehicles := rfl
@[simp] theorem State.modTank_sigma (s : State) (k : TankId) (f : Tank → Tank) :
    (s.modTank k f).sigma = s.sigma := rfl
@[simp] theorem State.modTank_tableFullTick (s : State) (k : TankId) (f : Tank → Tank) :
    (s.modTank k f).tableFullTick = s.tableFullTick := rfl
@[simp] theorem State.modTank_holds (s : State) (k : TankId) (f : Tank → Tank) :
    (s.modTank k f).holds = s.holds := rfl
@[simp] theorem State.modTank_holdExpiries (s : State) (k : TankId) (f : Tank → Tank) :
    (s.modTank k f).holdExpiries = s.holdExpiries := rfl
@[simp] theorem State.modTank_portA (s : State) (k : TankId) (f : Tank → Tank) :
    (s.modTank k f).portA = s.portA := rfl
@[simp] theorem State.modTank_portB (s : State) (k : TankId) (f : Tank → Tank) :
    (s.modTank k f).portB = s.portB := rfl
@[simp] theorem State.modTank_walker (s : State) (k : TankId) (f : Tank → Tank) :
    (s.modTank k f).walker = s.walker := rfl
@[simp] theorem State.modTank_console (s : State) (k : TankId) (f : Tank → Tank) :
    (s.modTank k f).console = s.console := rfl
@[simp] theorem State.modTank_classCounters (s : State) (k : TankId) (f : Tank → Tank) :
    (s.modTank k f).classCounters = s.classCounters := rfl
@[simp] theorem State.modTank_hoseCounters (s : State) (k : TankId) (f : Tank → Tank) :
    (s.modTank k f).hoseCounters = s.hoseCounters := rfl
@[simp] theorem State.modTank_alert (s : State) (k : TankId) (f : Tank → Tank) :
    (s.modTank k f).alert = s.alert := rfl
@[simp] theorem State.modTank_pending (s : State) (k : TankId) (f : Tank → Tank) :
    (s.modTank k f).pending = s.pending := rfl

/-! ### `modConsole` -/

@[simp] theorem State.modConsole_started (s : State) (f : Console → Console) :
    (s.modConsole f).started = s.started := rfl
@[simp] theorem State.modConsole_cfg (s : State) (f : Console → Console) :
    (s.modConsole f).cfg = s.cfg := rfl
@[simp] theorem State.modConsole_tick (s : State) (f : Console → Console) :
    (s.modConsole f).tick = s.tick := rfl
@[simp] theorem State.modConsole_hoses (s : State) (f : Console → Console) :
    (s.modConsole f).hoses = s.hoses := rfl
@[simp] theorem State.modConsole_holdCounter (s : State) (f : Console → Console) :
    (s.modConsole f).holdCounter = s.holdCounter := rfl
@[simp] theorem State.modConsole_meters (s : State) (f : Console → Console) :
    (s.modConsole f).meters = s.meters := rfl
@[simp] theorem State.modConsole_tags (s : State) (f : Console → Console) :
    (s.modConsole f).tags = s.tags := rfl
@[simp] theorem State.modConsole_vehicles (s : State) (f : Console → Console) :
    (s.modConsole f).vehicles = s.vehicles := rfl
@[simp] theorem State.modConsole_sigma (s : State) (f : Console → Console) :
    (s.modConsole f).sigma = s.sigma := rfl
@[simp] theorem State.modConsole_tableFullTick (s : State) (f : Console → Console) :
    (s.modConsole f).tableFullTick = s.tableFullTick := rfl
@[simp] theorem State.modConsole_tanks (s : State) (f : Console → Console) :
    (s.modConsole f).tanks = s.tanks := rfl
@[simp] theorem State.modConsole_holds (s : State) (f : Console → Console) :
    (s.modConsole f).holds = s.holds := rfl
@[simp] theorem State.modConsole_holdExpiries (s : State) (f : Console → Console) :
    (s.modConsole f).holdExpiries = s.holdExpiries := rfl
@[simp] theorem State.modConsole_portA (s : State) (f : Console → Console) :
    (s.modConsole f).portA = s.portA := rfl
@[simp] theorem State.modConsole_portB (s : State) (f : Console → Console) :
    (s.modConsole f).portB = s.portB := rfl
@[simp] theorem State.modConsole_walker (s : State) (f : Console → Console) :
    (s.modConsole f).walker = s.walker := rfl
@[simp] theorem State.modConsole_classCounters (s : State) (f : Console → Console) :
    (s.modConsole f).classCounters = s.classCounters := rfl
@[simp] theorem State.modConsole_hoseCounters (s : State) (f : Console → Console) :
    (s.modConsole f).hoseCounters = s.hoseCounters := rfl
@[simp] theorem State.modConsole_alert (s : State) (f : Console → Console) :
    (s.modConsole f).alert = s.alert := rfl
@[simp] theorem State.modConsole_pending (s : State) (f : Console → Console) :
    (s.modConsole f).pending = s.pending := rfl

/-! ### `modWalker` -/

@[simp] theorem State.modWalker_started (s : State) (f : Walker → Walker) :
    (s.modWalker f).started = s.started := rfl
@[simp] theorem State.modWalker_cfg (s : State) (f : Walker → Walker) :
    (s.modWalker f).cfg = s.cfg := rfl
@[simp] theorem State.modWalker_tick (s : State) (f : Walker → Walker) :
    (s.modWalker f).tick = s.tick := rfl
@[simp] theorem State.modWalker_hoses (s : State) (f : Walker → Walker) :
    (s.modWalker f).hoses = s.hoses := rfl
@[simp] theorem State.modWalker_holdCounter (s : State) (f : Walker → Walker) :
    (s.modWalker f).holdCounter = s.holdCounter := rfl
@[simp] theorem State.modWalker_meters (s : State) (f : Walker → Walker) :
    (s.modWalker f).meters = s.meters := rfl
@[simp] theorem State.modWalker_tags (s : State) (f : Walker → Walker) :
    (s.modWalker f).tags = s.tags := rfl
@[simp] theorem State.modWalker_vehicles (s : State) (f : Walker → Walker) :
    (s.modWalker f).vehicles = s.vehicles := rfl
@[simp] theorem State.modWalker_sigma (s : State) (f : Walker → Walker) :
    (s.modWalker f).sigma = s.sigma := rfl
@[simp] theorem State.modWalker_tableFullTick (s : State) (f : Walker → Walker) :
    (s.modWalker f).tableFullTick = s.tableFullTick := rfl
@[simp] theorem State.modWalker_tanks (s : State) (f : Walker → Walker) :
    (s.modWalker f).tanks = s.tanks := rfl
@[simp] theorem State.modWalker_holds (s : State) (f : Walker → Walker) :
    (s.modWalker f).holds = s.holds := rfl
@[simp] theorem State.modWalker_holdExpiries (s : State) (f : Walker → Walker) :
    (s.modWalker f).holdExpiries = s.holdExpiries := rfl
@[simp] theorem State.modWalker_portA (s : State) (f : Walker → Walker) :
    (s.modWalker f).portA = s.portA := rfl
@[simp] theorem State.modWalker_portB (s : State) (f : Walker → Walker) :
    (s.modWalker f).portB = s.portB := rfl
@[simp] theorem State.modWalker_console (s : State) (f : Walker → Walker) :
    (s.modWalker f).console = s.console := rfl
@[simp] theorem State.modWalker_classCounters (s : State) (f : Walker → Walker) :
    (s.modWalker f).classCounters = s.classCounters := rfl
@[simp] theorem State.modWalker_hoseCounters (s : State) (f : Walker → Walker) :
    (s.modWalker f).hoseCounters = s.hoseCounters := rfl
@[simp] theorem State.modWalker_alert (s : State) (f : Walker → Walker) :
    (s.modWalker f).alert = s.alert := rfl
@[simp] theorem State.modWalker_pending (s : State) (f : Walker → Walker) :
    (s.modWalker f).pending = s.pending := rfl

/-! ### `modHoseCounters` -/

@[simp] theorem State.modHoseCounters_started (s : State) (h : HoseId) (f : HoseCounters → HoseCounters) :
    (s.modHoseCounters h f).started = s.started := rfl
@[simp] theorem State.modHoseCounters_cfg (s : State) (h : HoseId) (f : HoseCounters → HoseCounters) :
    (s.modHoseCounters h f).cfg = s.cfg := rfl
@[simp] theorem State.modHoseCounters_tick (s : State) (h : HoseId) (f : HoseCounters → HoseCounters) :
    (s.modHoseCounters h f).tick = s.tick := rfl
@[simp] theorem State.modHoseCounters_hoses (s : State) (h : HoseId) (f : HoseCounters → HoseCounters) :
    (s.modHoseCounters h f).hoses = s.hoses := rfl
@[simp] theorem State.modHoseCounters_holdCounter (s : State) (h : HoseId) (f : HoseCounters → HoseCounters) :
    (s.modHoseCounters h f).holdCounter = s.holdCounter := rfl
@[simp] theorem State.modHoseCounters_meters (s : State) (h : HoseId) (f : HoseCounters → HoseCounters) :
    (s.modHoseCounters h f).meters = s.meters := rfl
@[simp] theorem State.modHoseCounters_tags (s : State) (h : HoseId) (f : HoseCounters → HoseCounters) :
    (s.modHoseCounters h f).tags = s.tags := rfl
@[simp] theorem State.modHoseCounters_vehicles (s : State) (h : HoseId) (f : HoseCounters → HoseCounters) :
    (s.modHoseCounters h f).vehicles = s.vehicles := rfl
@[simp] theorem State.modHoseCounters_sigma (s : State) (h : HoseId) (f : HoseCounters → HoseCounters) :
    (s.modHoseCounters h f).sigma = s.sigma := rfl
@[simp] theorem State.modHoseCounters_tableFullTick (s : State) (h : HoseId) (f : HoseCounters → HoseCounters) :
    (s.modHoseCounters h f).tableFullTick = s.tableFullTick := rfl
@[simp] theorem State.modHoseCounters_tanks (s : State) (h : HoseId) (f : HoseCounters → HoseCounters) :
    (s.modHoseCounters h f).tanks = s.tanks := rfl
@[simp] theorem State.modHoseCounters_holds (s : State) (h : HoseId) (f : HoseCounters → HoseCounters) :
    (s.modHoseCounters h f).holds = s.holds := rfl
@[simp] theorem State.modHoseCounters_holdExpiries (s : State) (h : HoseId) (f : HoseCounters → HoseCounters) :
    (s.modHoseCounters h f).holdExpiries = s.holdExpiries := rfl
@[simp] theorem State.modHoseCounters_portA (s : State) (h : HoseId) (f : HoseCounters → HoseCounters) :
    (s.modHoseCounters h f).portA = s.portA := rfl
@[simp] theorem State.modHoseCounters_portB (s : State) (h : HoseId) (f : HoseCounters → HoseCounters) :
    (s.modHoseCounters h f).portB = s.portB := rfl
@[simp] theorem State.modHoseCounters_walker (s : State) (h : HoseId) (f : HoseCounters → HoseCounters) :
    (s.modHoseCounters h f).walker = s.walker := rfl
@[simp] theorem State.modHoseCounters_console (s : State) (h : HoseId) (f : HoseCounters → HoseCounters) :
    (s.modHoseCounters h f).console = s.console := rfl
@[simp] theorem State.modHoseCounters_classCounters (s : State) (h : HoseId) (f : HoseCounters → HoseCounters) :
    (s.modHoseCounters h f).classCounters = s.classCounters := rfl
@[simp] theorem State.modHoseCounters_alert (s : State) (h : HoseId) (f : HoseCounters → HoseCounters) :
    (s.modHoseCounters h f).alert = s.alert := rfl
@[simp] theorem State.modHoseCounters_pending (s : State) (h : HoseId) (f : HoseCounters → HoseCounters) :
    (s.modHoseCounters h f).pending = s.pending := rfl

/-! ### `modClassCounters` -/

@[simp] theorem State.modClassCounters_started (s : State) (c : ClassId) (f : ClassCounters → ClassCounters) :
    (s.modClassCounters c f).started = s.started := rfl
@[simp] theorem State.modClassCounters_cfg (s : State) (c : ClassId) (f : ClassCounters → ClassCounters) :
    (s.modClassCounters c f).cfg = s.cfg := rfl
@[simp] theorem State.modClassCounters_tick (s : State) (c : ClassId) (f : ClassCounters → ClassCounters) :
    (s.modClassCounters c f).tick = s.tick := rfl
@[simp] theorem State.modClassCounters_hoses (s : State) (c : ClassId) (f : ClassCounters → ClassCounters) :
    (s.modClassCounters c f).hoses = s.hoses := rfl
@[simp] theorem State.modClassCounters_holdCounter (s : State) (c : ClassId) (f : ClassCounters → ClassCounters) :
    (s.modClassCounters c f).holdCounter = s.holdCounter := rfl
@[simp] theorem State.modClassCounters_meters (s : State) (c : ClassId) (f : ClassCounters → ClassCounters) :
    (s.modClassCounters c f).meters = s.meters := rfl
@[simp] theorem State.modClassCounters_tags (s : State) (c : ClassId) (f : ClassCounters → ClassCounters) :
    (s.modClassCounters c f).tags = s.tags := rfl
@[simp] theorem State.modClassCounters_vehicles (s : State) (c : ClassId) (f : ClassCounters → ClassCounters) :
    (s.modClassCounters c f).vehicles = s.vehicles := rfl
@[simp] theorem State.modClassCounters_sigma (s : State) (c : ClassId) (f : ClassCounters → ClassCounters) :
    (s.modClassCounters c f).sigma = s.sigma := rfl
@[simp] theorem State.modClassCounters_tableFullTick (s : State) (c : ClassId) (f : ClassCounters → ClassCounters) :
    (s.modClassCounters c f).tableFullTick = s.tableFullTick := rfl
@[simp] theorem State.modClassCounters_tanks (s : State) (c : ClassId) (f : ClassCounters → ClassCounters) :
    (s.modClassCounters c f).tanks = s.tanks := rfl
@[simp] theorem State.modClassCounters_holds (s : State) (c : ClassId) (f : ClassCounters → ClassCounters) :
    (s.modClassCounters c f).holds = s.holds := rfl
@[simp] theorem State.modClassCounters_holdExpiries (s : State) (c : ClassId) (f : ClassCounters → ClassCounters) :
    (s.modClassCounters c f).holdExpiries = s.holdExpiries := rfl
@[simp] theorem State.modClassCounters_portA (s : State) (c : ClassId) (f : ClassCounters → ClassCounters) :
    (s.modClassCounters c f).portA = s.portA := rfl
@[simp] theorem State.modClassCounters_portB (s : State) (c : ClassId) (f : ClassCounters → ClassCounters) :
    (s.modClassCounters c f).portB = s.portB := rfl
@[simp] theorem State.modClassCounters_walker (s : State) (c : ClassId) (f : ClassCounters → ClassCounters) :
    (s.modClassCounters c f).walker = s.walker := rfl
@[simp] theorem State.modClassCounters_console (s : State) (c : ClassId) (f : ClassCounters → ClassCounters) :
    (s.modClassCounters c f).console = s.console := rfl
@[simp] theorem State.modClassCounters_hoseCounters (s : State) (c : ClassId) (f : ClassCounters → ClassCounters) :
    (s.modClassCounters c f).hoseCounters = s.hoseCounters := rfl
@[simp] theorem State.modClassCounters_alert (s : State) (c : ClassId) (f : ClassCounters → ClassCounters) :
    (s.modClassCounters c f).alert = s.alert := rfl
@[simp] theorem State.modClassCounters_pending (s : State) (c : ClassId) (f : ClassCounters → ClassCounters) :
    (s.modClassCounters c f).pending = s.pending := rfl

/-! ### `modPort` -/

@[simp] theorem State.modPort_started (s : State) (p : PortId) (f : Port → Port) :
    (s.modPort p f).started = s.started := by cases p <;> rfl
@[simp] theorem State.modPort_cfg (s : State) (p : PortId) (f : Port → Port) :
    (s.modPort p f).cfg = s.cfg := by cases p <;> rfl
@[simp] theorem State.modPort_tick (s : State) (p : PortId) (f : Port → Port) :
    (s.modPort p f).tick = s.tick := by cases p <;> rfl
@[simp] theorem State.modPort_hoses (s : State) (p : PortId) (f : Port → Port) :
    (s.modPort p f).hoses = s.hoses := by cases p <;> rfl
@[simp] theorem State.modPort_holdCounter (s : State) (p : PortId) (f : Port → Port) :
    (s.modPort p f).holdCounter = s.holdCounter := by cases p <;> rfl
@[simp] theorem State.modPort_meters (s : State) (p : PortId) (f : Port → Port) :
    (s.modPort p f).meters = s.meters := by cases p <;> rfl
@[simp] theorem State.modPort_tags (s : State) (p : PortId) (f : Port → Port) :
    (s.modPort p f).tags = s.tags := by cases p <;> rfl
@[simp] theorem State.modPort_vehicles (s : State) (p : PortId) (f : Port → Port) :
    (s.modPort p f).vehicles = s.vehicles := by cases p <;> rfl
@[simp] theorem State.modPort_sigma (s : State) (p : PortId) (f : Port → Port) :
    (s.modPort p f).sigma = s.sigma := by cases p <;> rfl
@[simp] theorem State.modPort_tableFullTick (s : State) (p : PortId) (f : Port → Port) :
    (s.modPort p f).tableFullTick = s.tableFullTick := by cases p <;> rfl
@[simp] theorem State.modPort_tanks (s : State) (p : PortId) (f : Port → Port) :
    (s.modPort p f).tanks = s.tanks := by cases p <;> rfl
@[simp] theorem State.modPort_holds (s : State) (p : PortId) (f : Port → Port) :
    (s.modPort p f).holds = s.holds := by cases p <;> rfl
@[simp] theorem State.modPort_holdExpiries (s : State) (p : PortId) (f : Port → Port) :
    (s.modPort p f).holdExpiries = s.holdExpiries := by cases p <;> rfl
@[simp] theorem State.modPort_walker (s : State) (p : PortId) (f : Port → Port) :
    (s.modPort p f).walker = s.walker := by cases p <;> rfl
@[simp] theorem State.modPort_console (s : State) (p : PortId) (f : Port → Port) :
    (s.modPort p f).console = s.console := by cases p <;> rfl
@[simp] theorem State.modPort_classCounters (s : State) (p : PortId) (f : Port → Port) :
    (s.modPort p f).classCounters = s.classCounters := by cases p <;> rfl
@[simp] theorem State.modPort_hoseCounters (s : State) (p : PortId) (f : Port → Port) :
    (s.modPort p f).hoseCounters = s.hoseCounters := by cases p <;> rfl
@[simp] theorem State.modPort_alert (s : State) (p : PortId) (f : Port → Port) :
    (s.modPort p f).alert = s.alert := by cases p <;> rfl
@[simp] theorem State.modPort_pending (s : State) (p : PortId) (f : Port → Port) :
    (s.modPort p f).pending = s.pending := by cases p <;> rfl

/-! ### Reading a part after a write of it -/

@[simp] theorem State.hose_modHose_same (s : State) (h : HoseId) (f : Hose → Hose) :
    (s.modHose h f).hose h = f (s.hose h) := Quad.get_set_same _ _ _
theorem State.hose_modHose_ne (s : State) (h k : HoseId) (f : Hose → Hose) (n : k ≠ h) :
    (s.modHose h f).hose k = s.hose k := Quad.get_set_ne _ _ _ _ n
@[simp] theorem State.meter_modMeter_same (s : State) (h : HoseId) (f : Meter → Meter) :
    (s.modMeter h f).meter h = f (s.meter h) := Quad.get_set_same _ _ _
theorem State.meter_modMeter_ne (s : State) (h k : HoseId) (f : Meter → Meter) (n : k ≠ h) :
    (s.modMeter h f).meter k = s.meter k := Quad.get_set_ne _ _ _ _ n
@[simp] theorem State.tag_modTag_same (s : State) (h : HoseId) (f : TagLink → TagLink) :
    (s.modTag h f).tag h = f (s.tag h) := Quad.get_set_same _ _ _
theorem State.tag_modTag_ne (s : State) (h k : HoseId) (f : TagLink → TagLink) (n : k ≠ h) :
    (s.modTag h f).tag k = s.tag k := Quad.get_set_ne _ _ _ _ n
@[simp] theorem State.tank_modTank_same (s : State) (k : TankId) (f : Tank → Tank) :
    (s.modTank k f).tank k = f (s.tank k) := Quad.get_set_same _ _ _
theorem State.tank_modTank_ne (s : State) (k j : TankId) (f : Tank → Tank) (n : j ≠ k) :
    (s.modTank k f).tank j = s.tank j := Quad.get_set_ne _ _ _ _ n
@[simp] theorem State.port_modPort_same (s : State) (p : PortId) (f : Port → Port) :
    (s.modPort p f).port p = f (s.port p) := by cases p <;> rfl
theorem State.port_modPort_ne (s : State) (p q : PortId) (f : Port → Port) (n : q ≠ p) :
    (s.modPort p f).port q = s.port q := by
  cases p <;> cases q <;> first | rfl | exact absurd rfl n
@[simp] theorem State.console_modConsole (s : State) (f : Console → Console) :
    (s.modConsole f).console = f s.console := rfl
@[simp] theorem State.walker_modWalker (s : State) (f : Walker → Walker) :
    (s.modWalker f).walker = f s.walker := rfl

/-! ### Reading a part after a write of another part -/

@[simp] theorem State.meter_modHose (s : State) (h : HoseId) (f : Hose → Hose) (k : HoseId) :
    (s.modHose h f).meter k = s.meter k := rfl
@[simp] theorem State.tag_modHose (s : State) (h : HoseId) (f : Hose → Hose) (k : HoseId) :
    (s.modHose h f).tag k = s.tag k := rfl
@[simp] theorem State.tank_modHose (s : State) (h : HoseId) (f : Hose → Hose) (k : TankId) :
    (s.modHose h f).tank k = s.tank k := rfl
@[simp] theorem State.port_modHose (s : State) (h : HoseId) (f : Hose → Hose) (p : PortId) :
    (s.modHose h f).port p = s.port p := by cases p <;> rfl
@[simp] theorem State.hoseCfg_modHose (s : State) (h : HoseId) (f : Hose → Hose) (k : HoseId) :
    (s.modHose h f).hoseCfg k = s.hoseCfg k := rfl
@[simp] theorem State.tankCfg_modHose (s : State) (h : HoseId) (f : Hose → Hose) (k : TankId) :
    (s.modHose h f).tankCfg k = s.tankCfg k := rfl
@[simp] theorem State.classCfg_modHose (s : State) (h : HoseId) (f : Hose → Hose) (k : ClassId) :
    (s.modHose h f).classCfg k = s.classCfg k := rfl
@[simp] theorem State.portCfg_modHose (s : State) (h : HoseId) (f : Hose → Hose) (p : PortId) :
    (s.modHose h f).portCfg p = s.portCfg p := by cases p <;> rfl
@[simp] theorem State.ownNumber_modHose (s : State) (h : HoseId) (f : Hose → Hose) :
    (s.modHose h f).ownNumber  = s.ownNumber := rfl
@[simp] theorem State.fittedRunning_modHose (s : State) (h : HoseId) (f : Hose → Hose) (k : HoseId) :
    (s.modHose h f).fittedRunning k = s.fittedRunning k := rfl
@[simp] theorem State.hose_modMeter (s : State) (h : HoseId) (f : Meter → Meter) (k : HoseId) :
    (s.modMeter h f).hose k = s.hose k := rfl
@[simp] theorem State.tag_modMeter (s : State) (h : HoseId) (f : Meter → Meter) (k : HoseId) :
    (s.modMeter h f).tag k = s.tag k := rfl
@[simp] theorem State.tank_modMeter (s : State) (h : HoseId) (f : Meter → Meter) (k : TankId) :
    (s.modMeter h f).tank k = s.tank k := rfl
@[simp] theorem State.port_modMeter (s : State) (h : HoseId) (f : Meter → Meter) (p : PortId) :
    (s.modMeter h f).port p = s.port p := by cases p <;> rfl
@[simp] theorem State.hoseCfg_modMeter (s : State) (h : HoseId) (f : Meter → Meter) (k : HoseId) :
    (s.modMeter h f).hoseCfg k = s.hoseCfg k := rfl
@[simp] theorem State.tankCfg_modMeter (s : State) (h : HoseId) (f : Meter → Meter) (k : TankId) :
    (s.modMeter h f).tankCfg k = s.tankCfg k := rfl
@[simp] theorem State.classCfg_modMeter (s : State) (h : HoseId) (f : Meter → Meter) (k : ClassId) :
    (s.modMeter h f).classCfg k = s.classCfg k := rfl
@[simp] theorem State.portCfg_modMeter (s : State) (h : HoseId) (f : Meter → Meter) (p : PortId) :
    (s.modMeter h f).portCfg p = s.portCfg p := by cases p <;> rfl
@[simp] theorem State.ownNumber_modMeter (s : State) (h : HoseId) (f : Meter → Meter) :
    (s.modMeter h f).ownNumber  = s.ownNumber := rfl
@[simp] theorem State.fittedRunning_modMeter (s : State) (h : HoseId) (f : Meter → Meter) (k : HoseId) :
    (s.modMeter h f).fittedRunning k = s.fittedRunning k := rfl
@[simp] theorem State.hose_modTag (s : State) (h : HoseId) (f : TagLink → TagLink) (k : HoseId) :
    (s.modTag h f).hose k = s.hose k := rfl
@[simp] theorem State.meter_modTag (s : State) (h : HoseId) (f : TagLink → TagLink) (k : HoseId) :
    (s.modTag h f).meter k = s.meter k := rfl
@[simp] theorem State.tank_modTag (s : State) (h : HoseId) (f : TagLink → TagLink) (k : TankId) :
    (s.modTag h f).tank k = s.tank k := rfl
@[simp] theorem State.port_modTag (s : State) (h : HoseId) (f : TagLink → TagLink) (p : PortId) :
    (s.modTag h f).port p = s.port p := by cases p <;> rfl
@[simp] theorem State.hoseCfg_modTag (s : State) (h : HoseId) (f : TagLink → TagLink) (k : HoseId) :
    (s.modTag h f).hoseCfg k = s.hoseCfg k := rfl
@[simp] theorem State.tankCfg_modTag (s : State) (h : HoseId) (f : TagLink → TagLink) (k : TankId) :
    (s.modTag h f).tankCfg k = s.tankCfg k := rfl
@[simp] theorem State.classCfg_modTag (s : State) (h : HoseId) (f : TagLink → TagLink) (k : ClassId) :
    (s.modTag h f).classCfg k = s.classCfg k := rfl
@[simp] theorem State.portCfg_modTag (s : State) (h : HoseId) (f : TagLink → TagLink) (p : PortId) :
    (s.modTag h f).portCfg p = s.portCfg p := by cases p <;> rfl
@[simp] theorem State.ownNumber_modTag (s : State) (h : HoseId) (f : TagLink → TagLink) :
    (s.modTag h f).ownNumber  = s.ownNumber := rfl
@[simp] theorem State.fittedRunning_modTag (s : State) (h : HoseId) (f : TagLink → TagLink) (k : HoseId) :
    (s.modTag h f).fittedRunning k = s.fittedRunning k := rfl
@[simp] theorem State.hose_modTank (s : State) (i : TankId) (f : Tank → Tank) (k : HoseId) :
    (s.modTank i f).hose k = s.hose k := rfl
@[simp] theorem State.meter_modTank (s : State) (i : TankId) (f : Tank → Tank) (k : HoseId) :
    (s.modTank i f).meter k = s.meter k := rfl
@[simp] theorem State.tag_modTank (s : State) (i : TankId) (f : Tank → Tank) (k : HoseId) :
    (s.modTank i f).tag k = s.tag k := rfl
@[simp] theorem State.port_modTank (s : State) (i : TankId) (f : Tank → Tank) (p : PortId) :
    (s.modTank i f).port p = s.port p := by cases p <;> rfl
@[simp] theorem State.hoseCfg_modTank (s : State) (i : TankId) (f : Tank → Tank) (k : HoseId) :
    (s.modTank i f).hoseCfg k = s.hoseCfg k := rfl
@[simp] theorem State.tankCfg_modTank (s : State) (i : TankId) (f : Tank → Tank) (k : TankId) :
    (s.modTank i f).tankCfg k = s.tankCfg k := rfl
@[simp] theorem State.classCfg_modTank (s : State) (i : TankId) (f : Tank → Tank) (k : ClassId) :
    (s.modTank i f).classCfg k = s.classCfg k := rfl
@[simp] theorem State.portCfg_modTank (s : State) (i : TankId) (f : Tank → Tank) (p : PortId) :
    (s.modTank i f).portCfg p = s.portCfg p := by cases p <;> rfl
@[simp] theorem State.ownNumber_modTank (s : State) (i : TankId) (f : Tank → Tank) :
    (s.modTank i f).ownNumber  = s.ownNumber := rfl
@[simp] theorem State.fittedRunning_modTank (s : State) (i : TankId) (f : Tank → Tank) (k : HoseId) :
    (s.modTank i f).fittedRunning k = s.fittedRunning k := rfl
@[simp] theorem State.hose_modConsole (s : State) (f : Console → Console) (k : HoseId) :
    (s.modConsole f).hose k = s.hose k := rfl
@[simp] theorem State.meter_modConsole (s : State) (f : Console → Console) (k : HoseId) :
    (s.modConsole f).meter k = s.meter k := rfl
@[simp] theorem State.tag_modConsole (s : State) (f : Console → Console) (k : HoseId) :
    (s.modConsole f).tag k = s.tag k := rfl
@[simp] theorem State.tank_modConsole (s : State) (f : Console → Console) (k : TankId) :
    (s.modConsole f).tank k = s.tank k := rfl
@[simp] theorem State.port_modConsole (s : State) (f : Console → Console) (p : PortId) :
    (s.modConsole f).port p = s.port p := by cases p <;> rfl
@[simp] theorem State.hoseCfg_modConsole (s : State) (f : Console → Console) (k : HoseId) :
    (s.modConsole f).hoseCfg k = s.hoseCfg k := rfl
@[simp] theorem State.tankCfg_modConsole (s : State) (f : Console → Console) (k : TankId) :
    (s.modConsole f).tankCfg k = s.tankCfg k := rfl
@[simp] theorem State.classCfg_modConsole (s : State) (f : Console → Console) (k : ClassId) :
    (s.modConsole f).classCfg k = s.classCfg k := rfl
@[simp] theorem State.portCfg_modConsole (s : State) (f : Console → Console) (p : PortId) :
    (s.modConsole f).portCfg p = s.portCfg p := by cases p <;> rfl
@[simp] theorem State.ownNumber_modConsole (s : State) (f : Console → Console) :
    (s.modConsole f).ownNumber  = s.ownNumber := rfl
@[simp] theorem State.fittedRunning_modConsole (s : State) (f : Console → Console) (k : HoseId) :
    (s.modConsole f).fittedRunning k = s.fittedRunning k := rfl
@[simp] theorem State.hose_modWalker (s : State) (f : Walker → Walker) (k : HoseId) :
    (s.modWalker f).hose k = s.hose k := rfl
@[simp] theorem State.meter_modWalker (s : State) (f : Walker → Walker) (k : HoseId) :
    (s.modWalker f).meter k = s.meter k := rfl
@[simp] theorem State.tag_modWalker (s : State) (f : Walker → Walker) (k : HoseId) :
    (s.modWalker f).tag k = s.tag k := rfl
@[simp] theorem State.tank_modWalker (s : State) (f : Walker → Walker) (k : TankId) :
    (s.modWalker f).tank k = s.tank k := rfl
@[simp] theorem State.port_modWalker (s : State) (f : Walker → Walker) (p : PortId) :
    (s.modWalker f).port p = s.port p := by cases p <;> rfl
@[simp] theorem State.hoseCfg_modWalker (s : State) (f : Walker → Walker) (k : HoseId) :
    (s.modWalker f).hoseCfg k = s.hoseCfg k := rfl
@[simp] theorem State.tankCfg_modWalker (s : State) (f : Walker → Walker) (k : TankId) :
    (s.modWalker f).tankCfg k = s.tankCfg k := rfl
@[simp] theorem State.classCfg_modWalker (s : State) (f : Walker → Walker) (k : ClassId) :
    (s.modWalker f).classCfg k = s.classCfg k := rfl
@[simp] theorem State.portCfg_modWalker (s : State) (f : Walker → Walker) (p : PortId) :
    (s.modWalker f).portCfg p = s.portCfg p := by cases p <;> rfl
@[simp] theorem State.ownNumber_modWalker (s : State) (f : Walker → Walker) :
    (s.modWalker f).ownNumber  = s.ownNumber := rfl
@[simp] theorem State.fittedRunning_modWalker (s : State) (f : Walker → Walker) (k : HoseId) :
    (s.modWalker f).fittedRunning k = s.fittedRunning k := rfl
@[simp] theorem State.hose_modHoseCounters (s : State) (h : HoseId) (f : HoseCounters → HoseCounters) (k : HoseId) :
    (s.modHoseCounters h f).hose k = s.hose k := rfl
@[simp] theorem State.meter_modHoseCounters (s : State) (h : HoseId) (f : HoseCounters → HoseCounters) (k : HoseId) :
    (s.modHoseCounters h f).meter k = s.meter k := rfl
@[simp] theorem State.tag_modHoseCounters (s : State) (h : HoseId) (f : HoseCounters → HoseCounters) (k : HoseId) :
    (s.modHoseCounters h f).tag k = s.tag k := rfl
@[simp] theorem State.tank_modHoseCounters (s : State) (h : HoseId) (f : HoseCounters → HoseCounters) (k : TankId) :
    (s.modHoseCounters h f).tank k = s.tank k := rfl
@[simp] theorem State.port_modHoseCounters (s : State) (h : HoseId) (f : HoseCounters → HoseCounters) (p : PortId) :
    (s.modHoseCounters h f).port p = s.port p := by cases p <;> rfl
@[simp] theorem State.hoseCfg_modHoseCounters (s : State) (h : HoseId) (f : HoseCounters → HoseCounters) (k : HoseId) :
    (s.modHoseCounters h f).hoseCfg k = s.hoseCfg k := rfl
@[simp] theorem State.tankCfg_modHoseCounters (s : State) (h : HoseId) (f : HoseCounters → HoseCounters) (k : TankId) :
    (s.modHoseCounters h f).tankCfg k = s.tankCfg k := rfl
@[simp] theorem State.classCfg_modHoseCounters (s : State) (h : HoseId) (f : HoseCounters → HoseCounters) (k : ClassId) :
    (s.modHoseCounters h f).classCfg k = s.classCfg k := rfl
@[simp] theorem State.portCfg_modHoseCounters (s : State) (h : HoseId) (f : HoseCounters → HoseCounters) (p : PortId) :
    (s.modHoseCounters h f).portCfg p = s.portCfg p := by cases p <;> rfl
@[simp] theorem State.ownNumber_modHoseCounters (s : State) (h : HoseId) (f : HoseCounters → HoseCounters) :
    (s.modHoseCounters h f).ownNumber  = s.ownNumber := rfl
@[simp] theorem State.fittedRunning_modHoseCounters (s : State) (h : HoseId) (f : HoseCounters → HoseCounters) (k : HoseId) :
    (s.modHoseCounters h f).fittedRunning k = s.fittedRunning k := rfl
@[simp] theorem State.hose_modClassCounters (s : State) (c : ClassId) (f : ClassCounters → ClassCounters) (k : HoseId) :
    (s.modClassCounters c f).hose k = s.hose k := rfl
@[simp] theorem State.meter_modClassCounters (s : State) (c : ClassId) (f : ClassCounters → ClassCounters) (k : HoseId) :
    (s.modClassCounters c f).meter k = s.meter k := rfl
@[simp] theorem State.tag_modClassCounters (s : State) (c : ClassId) (f : ClassCounters → ClassCounters) (k : HoseId) :
    (s.modClassCounters c f).tag k = s.tag k := rfl
@[simp] theorem State.tank_modClassCounters (s : State) (c : ClassId) (f : ClassCounters → ClassCounters) (k : TankId) :
    (s.modClassCounters c f).tank k = s.tank k := rfl
@[simp] theorem State.port_modClassCounters (s : State) (c : ClassId) (f : ClassCounters → ClassCounters) (p : PortId) :
    (s.modClassCounters c f).port p = s.port p := by cases p <;> rfl
@[simp] theorem State.hoseCfg_modClassCounters (s : State) (c : ClassId) (f : ClassCounters → ClassCounters) (k : HoseId) :
    (s.modClassCounters c f).hoseCfg k = s.hoseCfg k := rfl
@[simp] theorem State.tankCfg_modClassCounters (s : State) (c : ClassId) (f : ClassCounters → ClassCounters) (k : TankId) :
    (s.modClassCounters c f).tankCfg k = s.tankCfg k := rfl
@[simp] theorem State.classCfg_modClassCounters (s : State) (c : ClassId) (f : ClassCounters → ClassCounters) (k : ClassId) :
    (s.modClassCounters c f).classCfg k = s.classCfg k := rfl
@[simp] theorem State.portCfg_modClassCounters (s : State) (c : ClassId) (f : ClassCounters → ClassCounters) (p : PortId) :
    (s.modClassCounters c f).portCfg p = s.portCfg p := by cases p <;> rfl
@[simp] theorem State.ownNumber_modClassCounters (s : State) (c : ClassId) (f : ClassCounters → ClassCounters) :
    (s.modClassCounters c f).ownNumber  = s.ownNumber := rfl
@[simp] theorem State.fittedRunning_modClassCounters (s : State) (c : ClassId) (f : ClassCounters → ClassCounters) (k : HoseId) :
    (s.modClassCounters c f).fittedRunning k = s.fittedRunning k := rfl
@[simp] theorem State.hose_modPort (s : State) (q : PortId) (f : Port → Port) (k : HoseId) :
    (s.modPort q f).hose k = s.hose k := by cases q <;> rfl
@[simp] theorem State.meter_modPort (s : State) (q : PortId) (f : Port → Port) (k : HoseId) :
    (s.modPort q f).meter k = s.meter k := by cases q <;> rfl
@[simp] theorem State.tag_modPort (s : State) (q : PortId) (f : Port → Port) (k : HoseId) :
    (s.modPort q f).tag k = s.tag k := by cases q <;> rfl
@[simp] theorem State.tank_modPort (s : State) (q : PortId) (f : Port → Port) (k : TankId) :
    (s.modPort q f).tank k = s.tank k := by cases q <;> rfl
@[simp] theorem State.hoseCfg_modPort (s : State) (q : PortId) (f : Port → Port) (k : HoseId) :
    (s.modPort q f).hoseCfg k = s.hoseCfg k := by cases q <;> rfl
@[simp] theorem State.tankCfg_modPort (s : State) (q : PortId) (f : Port → Port) (k : TankId) :
    (s.modPort q f).tankCfg k = s.tankCfg k := by cases q <;> rfl
@[simp] theorem State.classCfg_modPort (s : State) (q : PortId) (f : Port → Port) (k : ClassId) :
    (s.modPort q f).classCfg k = s.classCfg k := by cases q <;> rfl
@[simp] theorem State.portCfg_modPort (s : State) (q : PortId) (f : Port → Port) (p : PortId) :
    (s.modPort q f).portCfg p = s.portCfg p := by cases q <;> cases p <;> rfl
@[simp] theorem State.ownNumber_modPort (s : State) (q : PortId) (f : Port → Port) :
    (s.modPort q f).ownNumber  = s.ownNumber := by cases q <;> rfl
@[simp] theorem State.fittedRunning_modPort (s : State) (q : PortId) (f : Port → Port) (k : HoseId) :
    (s.modPort q f).fittedRunning k = s.fittedRunning k := by cases q <;> rfl

end Machine

end Sys2Proof
end

