-- ==== Sys2Proof/Laws/Ops.lean ====
section
/-!
SUPPORT. What the operations of Machine/Ops.lean leave as it was: for each, every field of the state that it does
not write, the laws of component maps (R64), and that levels spell the byte they come from (R183).
-/

namespace Sys2Proof.Machine

/-! ### Bits sent least significant first -/

/-- R183: the levels of a byte's data bits spell it. -/
theorem levelsByte_dataLevels (b : Byte) : levelsByte (dataLevels b) = b := by
  have key : ∀ n : Fin 256, (levelsByte (dataLevels (BitVec.ofFin n))).toNat = n.val := by decide +kernel
  exact BitVec.eq_of_toNat_eq (key b.toFin)

/-! ### `post`: the console port alone -/
@[simp] theorem post_started (n : Nat) (d : EventDetail) (s : State) :
    (post n d s).started = s.started := by unfold post; split <;> rfl
@[simp] theorem post_cfg (n : Nat) (d : EventDetail) (s : State) :
    (post n d s).cfg = s.cfg := by unfold post; split <;> rfl
@[simp] theorem post_tick (n : Nat) (d : EventDetail) (s : State) :
    (post n d s).tick = s.tick := by unfold post; split <;> rfl
@[simp] theorem post_hoses (n : Nat) (d : EventDetail) (s : State) :
    (post n d s).hoses = s.hoses := by unfold post; split <;> rfl
@[simp] theorem post_holdCounter (n : Nat) (d : EventDetail) (s : State) :
    (post n d s).holdCounter = s.holdCounter := by unfold post; split <;> rfl
@[simp] theorem post_meters (n : Nat) (d : EventDetail) (s : State) :
    (post n d s).meters = s.meters := by unfold post; split <;> rfl
@[simp] theorem post_tags (n : Nat) (d : EventDetail) (s : State) :
    (post n d s).tags = s.tags := by unfold post; split <;> rfl
@[simp] theorem post_vehicles (n : Nat) (d : EventDetail) (s : State) :
    (post n d s).vehicles = s.vehicles := by unfold post; split <;> rfl
@[simp] theorem post_sigma (n : Nat) (d : EventDetail) (s : State) :
    (post n d s).sigma = s.sigma := by unfold post; split <;> rfl
@[simp] theorem post_tableFullTick (n : Nat) (d : EventDetail) (s : State) :
    (post n d s).tableFullTick = s.tableFullTick := by unfold post; split <;> rfl
@[simp] theorem post_tanks (n : Nat) (d : EventDetail) (s : State) :
    (post n d s).tanks = s.tanks := by unfold post; split <;> rfl
@[simp] theorem post_holds (n : Nat) (d : EventDetail) (s : State) :
    (post n d s).holds = s.holds := by unfold post; split <;> rfl
@[simp] theorem post_holdExpiries (n : Nat) (d : EventDetail) (s : State) :
    (post n d s).holdExpiries = s.holdExpiries := by unfold post; split <;> rfl
@[simp] theorem post_portA (n : Nat) (d : EventDetail) (s : State) :
    (post n d s).portA = s.portA := by unfold post; split <;> rfl
@[simp] theorem post_portB (n : Nat) (d : EventDetail) (s : State) :
    (post n d s).portB = s.portB := by unfold post; split <;> rfl
@[simp] theorem post_walker (n : Nat) (d : EventDetail) (s : State) :
    (post n d s).walker = s.walker := by unfold post; split <;> rfl
@[simp] theorem post_classCounters (n : Nat) (d : EventDetail) (s : State) :
    (post n d s).classCounters = s.classCounters := by unfold post; split <;> rfl
@[simp] theorem post_hoseCounters (n : Nat) (d : EventDetail) (s : State) :
    (post n d s).hoseCounters = s.hoseCounters := by unfold post; split <;> rfl
@[simp] theorem post_alert (n : Nat) (d : EventDetail) (s : State) :
    (post n d s).alert = s.alert := by unfold post; split <;> rfl
@[simp] theorem post_pending (n : Nat) (d : EventDetail) (s : State) :
    (post n d s).pending = s.pending := by unfold post; split <;> rfl

/-! ### `alertAfterMove`: the bay alert alone -/
@[simp] theorem alertAfterMove_started (s : State) :
    (alertAfterMove s).started = s.started := by unfold alertAfterMove; split <;> rfl
@[simp] theorem alertAfterMove_cfg (s : State) :
    (alertAfterMove s).cfg = s.cfg := by unfold alertAfterMove; split <;> rfl
@[simp] theorem alertAfterMove_tick (s : State) :
    (alertAfterMove s).tick = s.tick := by unfold alertAfterMove; split <;> rfl
@[simp] theorem alertAfterMove_hoses (s : State) :
    (alertAfterMove s).hoses = s.hoses := by unfold alertAfterMove; split <;> rfl
@[simp] theorem alertAfterMove_holdCounter (s : State) :
    (alertAfterMove s).holdCounter = s.holdCounter := by unfold alertAfterMove; split <;> rfl
@[simp] theorem alertAfterMove_meters (s : State) :
    (alertAfterMove s).meters = s.meters := by unfold alertAfterMove; split <;> rfl
@[simp] theorem alertAfterMove_tags (s : State) :
    (alertAfterMove s).tags = s.tags := by unfold alertAfterMove; split <;> rfl
@[simp] theorem alertAfterMove_vehicles (s : State) :
    (alertAfterMove s).vehicles = s.vehicles := by unfold alertAfterMove; split <;> rfl
@[simp] theorem alertAfterMove_sigma (s : State) :
    (alertAfterMove s).sigma = s.sigma := by unfold alertAfterMove; split <;> rfl
@[simp] theorem alertAfterMove_tableFullTick (s : State) :
    (alertAfterMove s).tableFullTick = s.tableFullTick := by unfold alertAfterMove; split <;> rfl
@[simp] theorem alertAfterMove_tanks (s : State) :
    (alertAfterMove s).tanks = s.tanks := by unfold alertAfterMove; split <;> rfl
@[simp] theorem alertAfterMove_holds (s : State) :
    (alertAfterMove s).holds = s.holds := by unfold alertAfterMove; split <;> rfl
@[simp] theorem alertAfterMove_holdExpiries (s : State) :
    (alertAfterMove s).holdExpiries = s.holdExpiries := by unfold alertAfterMove; split <;> rfl
@[simp] theorem alertAfterMove_portA (s : State) :
    (alertAfterMove s).portA = s.portA := by unfold alertAfterMove; split <;> rfl
@[simp] theorem alertAfterMove_portB (s : State) :
    (alertAfterMove s).portB = s.portB := by unfold alertAfterMove; split <;> rfl
@[simp] theorem alertAfterMove_walker (s : State) :
    (alertAfterMove s).walker = s.walker := by unfold alertAfterMove; split <;> rfl
@[simp] theorem alertAfterMove_console (s : State) :
    (alertAfterMove s).console = s.console := by unfold alertAfterMove; split <;> rfl
@[simp] theorem alertAfterMove_classCounters (s : State) :
    (alertAfterMove s).classCounters = s.classCounters := by unfold alertAfterMove; split <;> rfl
@[simp] theorem alertAfterMove_hoseCounters (s : State) :
    (alertAfterMove s).hoseCounters = s.hoseCounters := by unfold alertAfterMove; split <;> rfl
@[simp] theorem alertAfterMove_pending (s : State) :
    (alertAfterMove s).pending = s.pending := by unfold alertAfterMove; split <;> rfl

/-! ### `pushUrgent`: the ports alone -/
@[simp] theorem pushUrgent_started (p : PortId) (e : QueueEntry) (s : State) :
    (pushUrgent p e s).started = s.started := by simp [pushUrgent]
@[simp] theorem pushUrgent_cfg (p : PortId) (e : QueueEntry) (s : State) :
    (pushUrgent p e s).cfg = s.cfg := by simp [pushUrgent]
@[simp] theorem pushUrgent_tick (p : PortId) (e : QueueEntry) (s : State) :
    (pushUrgent p e s).tick = s.tick := by simp [pushUrgent]
@[simp] theorem pushUrgent_hoses (p : PortId) (e : QueueEntry) (s : State) :
    (pushUrgent p e s).hoses = s.hoses := by simp [pushUrgent]
@[simp] theorem pushUrgent_holdCounter (p : PortId) (e : QueueEntry) (s : State) :
    (pushUrgent p e s).holdCounter = s.holdCounter := by simp [pushUrgent]
@[simp] theorem pushUrgent_meters (p : PortId) (e : QueueEntry) (s : State) :
    (pushUrgent p e s).meters = s.meters := by simp [pushUrgent]
@[simp] theorem pushUrgent_tags (p : PortId) (e : QueueEntry) (s : State) :
    (pushUrgent p e s).tags = s.tags := by simp [pushUrgent]
@[simp] theorem pushUrgent_vehicles (p : PortId) (e : QueueEntry) (s : State) :
    (pushUrgent p e s).vehicles = s.vehicles := by simp [pushUrgent]
@[simp] theorem pushUrgent_sigma (p : PortId) (e : QueueEntry) (s : State) :
    (pushUrgent p e s).sigma = s.sigma := by simp [pushUrgent]
@[simp] theorem pushUrgent_tableFullTick (p : PortId) (e : QueueEntry) (s : State) :
    (pushUrgent p e s).tableFullTick = s.tableFullTick := by simp [pushUrgent]
@[simp] theorem pushUrgent_tanks (p : PortId) (e : QueueEntry) (s : State) :
    (pushUrgent p e s).tanks = s.tanks := by simp [pushUrgent]
@[simp] theorem pushUrgent_holds (p : PortId) (e : QueueEntry) (s : State) :
    (pushUrgent p e s).holds = s.holds := by simp [pushUrgent]
@[simp] theorem pushUrgent_holdExpiries (p : PortId) (e : QueueEntry) (s : State) :
    (pushUrgent p e s).holdExpiries = s.holdExpiries := by simp [pushUrgent]
@[simp] theorem pushUrgent_walker (p : PortId) (e : QueueEntry) (s : State) :
    (pushUrgent p e s).walker = s.walker := by simp [pushUrgent]
@[simp] theorem pushUrgent_console (p : PortId) (e : QueueEntry) (s : State) :
    (pushUrgent p e s).console = s.console := by simp [pushUrgent]
@[simp] theorem pushUrgent_classCounters (p : PortId) (e : QueueEntry) (s : State) :
    (pushUrgent p e s).classCounters = s.classCounters := by simp [pushUrgent]
@[simp] theorem pushUrgent_hoseCounters (p : PortId) (e : QueueEntry) (s : State) :
    (pushUrgent p e s).hoseCounters = s.hoseCounters := by simp [pushUrgent]
@[simp] theorem pushUrgent_alert (p : PortId) (e : QueueEntry) (s : State) :
    (pushUrgent p e s).alert = s.alert := by simp [pushUrgent]
@[simp] theorem pushUrgent_pending (p : PortId) (e : QueueEntry) (s : State) :
    (pushUrgent p e s).pending = s.pending := by simp [pushUrgent]

/-! ### `pushRoutine`: the ports alone -/
@[simp] theorem pushRoutine_started (p : PortId) (e : QueueEntry) (s : State) :
    (pushRoutine p e s).started = s.started := by simp [pushRoutine]
@[simp] theorem pushRoutine_cfg (p : PortId) (e : QueueEntry) (s : State) :
    (pushRoutine p e s).cfg = s.cfg := by simp [pushRoutine]
@[simp] theorem pushRoutine_tick (p : PortId) (e : QueueEntry) (s : State) :
    (pushRoutine p e s).tick = s.tick := by simp [pushRoutine]
@[simp] theorem pushRoutine_hoses (p : PortId) (e : QueueEntry) (s : State) :
    (pushRoutine p e s).hoses = s.hoses := by simp [pushRoutine]
@[simp] theorem pushRoutine_holdCounter (p : PortId) (e : QueueEntry) (s : State) :
    (pushRoutine p e s).holdCounter = s.holdCounter := by simp [pushRoutine]
@[simp] theorem pushRoutine_meters (p : PortId) (e : QueueEntry) (s : State) :
    (pushRoutine p e s).meters = s.meters := by simp [pushRoutine]
@[simp] theorem pushRoutine_tags (p : PortId) (e : QueueEntry) (s : State) :
    (pushRoutine p e s).tags = s.tags := by simp [pushRoutine]
@[simp] theorem pushRoutine_vehicles (p : PortId) (e : QueueEntry) (s : State) :
    (pushRoutine p e s).vehicles = s.vehicles := by simp [pushRoutine]
@[simp] theorem pushRoutine_sigma (p : PortId) (e : QueueEntry) (s : State) :
    (pushRoutine p e s).sigma = s.sigma := by simp [pushRoutine]
@[simp] theorem pushRoutine_tableFullTick (p : PortId) (e : QueueEntry) (s : State) :
    (pushRoutine p e s).tableFullTick = s.tableFullTick := by simp [pushRoutine]
@[simp] theorem pushRoutine_tanks (p : PortId) (e : QueueEntry) (s : State) :
    (pushRoutine p e s).tanks = s.tanks := by simp [pushRoutine]
@[simp] theorem pushRoutine_holds (p : PortId) (e : QueueEntry) (s : State) :
    (pushRoutine p e s).holds = s.holds := by simp [pushRoutine]
@[simp] theorem pushRoutine_holdExpiries (p : PortId) (e : QueueEntry) (s : State) :
    (pushRoutine p e s).holdExpiries = s.holdExpiries := by simp [pushRoutine]
@[simp] theorem pushRoutine_walker (p : PortId) (e : QueueEntry) (s : State) :
    (pushRoutine p e s).walker = s.walker := by simp [pushRoutine]
@[simp] theorem pushRoutine_console (p : PortId) (e : QueueEntry) (s : State) :
    (pushRoutine p e s).console = s.console := by simp [pushRoutine]
@[simp] theorem pushRoutine_classCounters (p : PortId) (e : QueueEntry) (s : State) :
    (pushRoutine p e s).classCounters = s.classCounters := by simp [pushRoutine]
@[simp] theorem pushRoutine_hoseCounters (p : PortId) (e : QueueEntry) (s : State) :
    (pushRoutine p e s).hoseCounters = s.hoseCounters := by simp [pushRoutine]
@[simp] theorem pushRoutine_alert (p : PortId) (e : QueueEntry) (s : State) :
    (pushRoutine p e s).alert = s.alert := by simp [pushRoutine]
@[simp] theorem pushRoutine_pending (p : PortId) (e : QueueEntry) (s : State) :
    (pushRoutine p e s).pending = s.pending := by simp [pushRoutine]

/-! ### `pushRoutineAll`: the ports alone -/
@[simp] theorem pushRoutineAll_started (p : PortId) (es : List QueueEntry) (s : State) :
    (pushRoutineAll p es s).started = s.started := by simp [pushRoutineAll]
@[simp] theorem pushRoutineAll_cfg (p : PortId) (es : List QueueEntry) (s : State) :
    (pushRoutineAll p es s).cfg = s.cfg := by simp [pushRoutineAll]
@[simp] theorem pushRoutineAll_tick (p : PortId) (es : List QueueEntry) (s : State) :
    (pushRoutineAll p es s).tick = s.tick := by simp [pushRoutineAll]
@[simp] theorem pushRoutineAll_hoses (p : PortId) (es : List QueueEntry) (s : State) :
    (pushRoutineAll p es s).hoses = s.hoses := by simp [pushRoutineAll]
@[simp] theorem pushRoutineAll_holdCounter (p : PortId) (es : List QueueEntry) (s : State) :
    (pushRoutineAll p es s).holdCounter = s.holdCounter := by simp [pushRoutineAll]
@[simp] theorem pushRoutineAll_meters (p : PortId) (es : List QueueEntry) (s : State) :
    (pushRoutineAll p es s).meters = s.meters := by simp [pushRoutineAll]
@[simp] theorem pushRoutineAll_tags (p : PortId) (es : List QueueEntry) (s : State) :
    (pushRoutineAll p es s).tags = s.tags := by simp [pushRoutineAll]
@[simp] theorem pushRoutineAll_vehicles (p : PortId) (es : List QueueEntry) (s : State) :
    (pushRoutineAll p es s).vehicles = s.vehicles := by simp [pushRoutineAll]
@[simp] theorem pushRoutineAll_sigma (p : PortId) (es : List QueueEntry) (s : State) :
    (pushRoutineAll p es s).sigma = s.sigma := by simp [pushRoutineAll]
@[simp] theorem pushRoutineAll_tableFullTick (p : PortId) (es : List QueueEntry) (s : State) :
    (pushRoutineAll p es s).tableFullTick = s.tableFullTick := by simp [pushRoutineAll]
@[simp] theorem pushRoutineAll_tanks (p : PortId) (es : List QueueEntry) (s : State) :
    (pushRoutineAll p es s).tanks = s.tanks := by simp [pushRoutineAll]
@[simp] theorem pushRoutineAll_holds (p : PortId) (es : List QueueEntry) (s : State) :
    (pushRoutineAll p es s).holds = s.holds := by simp [pushRoutineAll]
@[simp] theorem pushRoutineAll_holdExpiries (p : PortId) (es : List QueueEntry) (s : State) :
    (pushRoutineAll p es s).holdExpiries = s.holdExpiries := by simp [pushRoutineAll]
@[simp] theorem pushRoutineAll_walker (p : PortId) (es : List QueueEntry) (s : State) :
    (pushRoutineAll p es s).walker = s.walker := by simp [pushRoutineAll]
@[simp] theorem pushRoutineAll_console (p : PortId) (es : List QueueEntry) (s : State) :
    (pushRoutineAll p es s).console = s.console := by simp [pushRoutineAll]
@[simp] theorem pushRoutineAll_classCounters (p : PortId) (es : List QueueEntry) (s : State) :
    (pushRoutineAll p es s).classCounters = s.classCounters := by simp [pushRoutineAll]
@[simp] theorem pushRoutineAll_hoseCounters (p : PortId) (es : List QueueEntry) (s : State) :
    (pushRoutineAll p es s).hoseCounters = s.hoseCounters := by simp [pushRoutineAll]
@[simp] theorem pushRoutineAll_alert (p : PortId) (es : List QueueEntry) (s : State) :
    (pushRoutineAll p es s).alert = s.alert := by simp [pushRoutineAll]
@[simp] theorem pushRoutineAll_pending (p : PortId) (es : List QueueEntry) (s : State) :
    (pushRoutineAll p es s).pending = s.pending := by simp [pushRoutineAll]

/-! ### `queueOrdinary`: the ports alone -/
@[simp] theorem queueOrdinary_started (fs : List Frame) (s : State) :
    (queueOrdinary fs s).started = s.started := by
  simp only [queueOrdinary, forPorts]; split <;> split <;> simp
@[simp] theorem queueOrdinary_cfg (fs : List Frame) (s : State) :
    (queueOrdinary fs s).cfg = s.cfg := by
  simp only [queueOrdinary, forPorts]; split <;> split <;> simp
@[simp] theorem queueOrdinary_tick (fs : List Frame) (s : State) :
    (queueOrdinary fs s).tick = s.tick := by
  simp only [queueOrdinary, forPorts]; split <;> split <;> simp
@[simp] theorem queueOrdinary_hoses (fs : List Frame) (s : State) :
    (queueOrdinary fs s).hoses = s.hoses := by
  simp only [queueOrdinary, forPorts]; split <;> split <;> simp
@[simp] theorem queueOrdinary_holdCounter (fs : List Frame) (s : State) :
    (queueOrdinary fs s).holdCounter = s.holdCounter := by
  simp only [queueOrdinary, forPorts]; split <;> split <;> simp
@[simp] theorem queueOrdinary_meters (fs : List Frame) (s : State) :
    (queueOrdinary fs s).meters = s.meters := by
  simp only [queueOrdinary, forPorts]; split <;> split <;> simp
@[simp] theorem queueOrdinary_tags (fs : List Frame) (s : State) :
    (queueOrdinary fs s).tags = s.tags := by
  simp only [queueOrdinary, forPorts]; split <;> split <;> simp
@[simp] theorem queueOrdinary_vehicles (fs : List Frame) (s : State) :
    (queueOrdinary fs s).vehicles = s.vehicles := by
  simp only [queueOrdinary, forPorts]; split <;> split <;> simp
@[simp] theorem queueOrdinary_sigma (fs : List Frame) (s : State) :
    (queueOrdinary fs s).sigma = s.sigma := by
  simp only [queueOrdinary, forPorts]; split <;> split <;> simp
@[simp] theorem queueOrdinary_tableFullTick (fs : List Frame) (s : State) :
    (queueOrdinary fs s).tableFullTick = s.tableFullTick := by
  simp only [queueOrdinary, forPorts]; split <;> split <;> simp
@[simp] theorem queueOrdinary_tanks (fs : List Frame) (s : State) :
    (queueOrdinary fs s).tanks = s.tanks := by
  simp only [queueOrdinary, forPorts]; split <;> split <;> simp
@[simp] theorem queueOrdinary_holds (fs : List Frame) (s : State) :
    (queueOrdinary fs s).holds = s.holds := by
  simp only [queueOrdinary, forPorts]; split <;> split <;> simp
@[simp] theorem queueOrdinary_holdExpiries (fs : List Frame) (s : State) :
    (queueOrdinary fs s).holdExpiries = s.holdExpiries := by
  simp only [queueOrdinary, forPorts]; split <;> split <;> simp
@[simp] theorem queueOrdinary_walker (fs : List Frame) (s : State) :
    (queueOrdinary fs s).walker = s.walker := by
  simp only [queueOrdinary, forPorts]; split <;> split <;> simp
@[simp] theorem queueOrdinary_console (fs : List Frame) (s : State) :
    (queueOrdinary fs s).console = s.console := by
  simp only [queueOrdinary, forPorts]; split <;> split <;> simp
@[simp] theorem queueOrdinary_classCounters (fs : List Frame) (s : State) :
    (queueOrdinary fs s).classCounters = s.classCounters := by
  simp only [queueOrdinary, forPorts]; split <;> split <;> simp
@[simp] theorem queueOrdinary_hoseCounters (fs : List Frame) (s : State) :
    (queueOrdinary fs s).hoseCounters = s.hoseCounters := by
  simp only [queueOrdinary, forPorts]; split <;> split <;> simp
@[simp] theorem queueOrdinary_alert (fs : List Frame) (s : State) :
    (queueOrdinary fs s).alert = s.alert := by
  simp only [queueOrdinary, forPorts]; split <;> split <;> simp
@[simp] theorem queueOrdinary_pending (fs : List Frame) (s : State) :
    (queueOrdinary fs s).pending = s.pending := by
  simp only [queueOrdinary, forPorts]; split <;> split <;> simp

end Sys2Proof.Machine
end

