-- ==== Sys2Proof/Laws/Accesses.lean ====
section
/-!
SUPPORT. What an access on the console lines does (R163, R183, R188), and that the bytes on the console lines and on
port B are read back as they were sent.
-/

namespace Sys2Proof.Machine

/-- R183: a byte's bits on the console lines spell it. -/
theorem spiByte_spiBits (b : Byte) : spiByte (spiBits b) = b := by
  have key : ∀ n : Fin 256, spiByte (spiBits (BitVec.ofFin n)) = BitVec.ofFin n := by decide +kernel
  exact key b.toFin

/-- R183, R139: a byte's levels on port B spell it. -/
theorem data_onLine (b : Byte) (gap : Bool) : (onLine b gap).data = b :=
  levelsByte_dataLevels b

@[simp] theorem spiBits_length (b : Byte) : (spiBits b).length = 8 := rfl

/-- R183: the byte at the front of longer bits. -/
theorem spiByte_append (b : Byte) (l : List Bool) : spiByte (spiBits b ++ l) = b := by
  have : (spiBits b ++ l).take 8 = (spiBits b).take 8 := by
    rw [List.take_append_of_le_length (by simp)]
  unfold spiByte
  rw [this]
  exact spiByte_spiBits b

/-- R163, R188: a whole data write. -/
theorem access_write (b : Byte) (w : Byte → State → State) (r : State → State) (s : State) :
    access (spiBits writeAccess ++ spiBits b) w r s = w b (shiftStatus s) := by
  have h : spiByte ((spiBits writeAccess ++ spiBits b).drop 8) = b := by
    rw [List.drop_append_of_le_length (by simp)]
    have : (spiBits writeAccess).drop 8 = [] := by decide
    rw [this]; exact spiByte_spiBits b
  simp [access, spiByte_append, h, accessOf]

/-- R163, R188: an access by what it names. -/
theorem access_spec (mosi : List Bool) (w : Byte → State → State) (r : State → State) (s : State) :
    (mosi.length < 8 → access mosi w r s = s) ∧
    (8 ≤ mosi.length → mosi.length < 16 ∨ accessOf (spiByte mosi) = .status →
      access mosi w r s = shiftStatus s) ∧
    (16 ≤ mosi.length → accessOf (spiByte mosi) = .read → access mosi w r s = r (shiftStatus s)) ∧
    (16 ≤ mosi.length → accessOf (spiByte mosi) = .write →
      access mosi w r s = w (spiByte (mosi.drop 8)) (shiftStatus s)) := by
  refine ⟨fun a => by simp [access, a], fun a b => ?_, fun a b => ?_, fun a b => ?_⟩
  · have : ¬mosi.length < 8 := by omega
    rcases b with b | b
    · simp [access, this, b]
    · by_cases c : mosi.length < 16 <;> simp [access, this, c, b]
  · have h8 : ¬mosi.length < 8 := by omega
    have h16 : ¬mosi.length < 16 := by omega
    simp [access, h8, h16, b]
  · have h8 : ¬mosi.length < 8 := by omega
    have h16 : ¬mosi.length < 16 := by omega
    simp [access, h8, h16, b]

end Sys2Proof.Machine
end

