-- ==== Sys2Proof/Laws/Hose.lean ====
section
/-!
SUPPORT. What the shared operations of the hose controllers, the vehicle table and the tank stages leave as it was:
for each, every field of the state that it does not write.
-/

namespace Sys2Proof.Machine

/-! ### `requestLampOpt`: the tag links alone -/
@[simp] theorem requestLampOpt_started (h : HoseId) (l : Option Lamp) (s : State) :
    (requestLampOpt h l s).started = s.started := by cases l <;> rfl
@[simp] theorem requestLampOpt_cfg (h : HoseId) (l : Option Lamp) (s : State) :
    (requestLampOpt h l s).cfg = s.cfg := by cases l <;> rfl
@[simp] theorem requestLampOpt_tick (h : HoseId) (l : Option Lamp) (s : State) :
    (requestLampOpt h l s).tick = s.tick := by cases l <;> rfl
@[simp] theorem requestLampOpt_hoses (h : HoseId) (l : Option Lamp) (s : State) :
    (requestLampOpt h l s).hoses = s.hoses := by cases l <;> rfl
@[simp] theorem requestLampOpt_holdCounter (h : HoseId) (l : Option Lamp) (s : State) :
    (requestLampOpt h l s).holdCounter = s.holdCounter := by cases l <;> rfl
@[simp] theorem requestLampOpt_meters (h : HoseId) (l : Option Lamp) (s : State) :
    (requestLampOpt h l s).meters = s.meters := by cases l <;> rfl
@[simp] theorem requestLampOpt_vehicles (h : HoseId) (l : Option Lamp) (s : State) :
    (requestLampOpt h l s).vehicles = s.vehicles := by cases l <;> rfl
@[simp] theorem requestLampOpt_sigma (h : HoseId) (l : Option Lamp) (s : State) :
    (requestLampOpt h l s).sigma = s.sigma := by cases l <;> rfl
@[simp] theorem requestLampOpt_tableFullTick (h : HoseId) (l : Option Lamp) (s : State) :
    (requestLampOpt h l s).tableFullTick = s.tableFullTick := by cases l <;> rfl
@[simp] theorem requestLampOpt_tanks (h : HoseId) (l : Option Lamp) (s : State) :
    (requestLampOpt h l s).tanks = s.tanks := by cases l <;> rfl
@[simp] theorem requestLampOpt_holds (h : HoseId) (l : Option Lamp) (s : State) :
    (requestLampOpt h l s).holds = s.holds := by cases l <;> rfl
@[simp] theorem requestLampOpt_holdExpiries (h : HoseId) (l : Option Lamp) (s : State) :
    (requestLampOpt h l s).holdExpiries = s.holdExpiries := by cases l <;> rfl
@[simp] theorem requestLampOpt_portA (h : HoseId) (l : Option Lamp) (s : State) :
    (requestLampOpt h l s).portA = s.portA := by cases l <;> rfl
@[simp] theorem requestLampOpt_portB (h : HoseId) (l : Option Lamp) (s : State) :
    (requestLampOpt h l s).portB = s.portB := by cases l <;> rfl
@[simp] theorem requestLampOpt_walker (h : HoseId) (l : Option Lamp) (s : State) :
    (requestLampOpt h l s).walker = s.walker := by cases l <;> rfl
@[simp] theorem requestLampOpt_console (h : HoseId) (l : Option Lamp) (s : State) :
    (requestLampOpt h l s).console = s.console := by cases l <;> rfl
@[simp] theorem requestLampOpt_classCounters (h : HoseId) (l : Option Lamp) (s : State) :
    (requestLampOpt h l s).classCounters = s.classCounters := by cases l <;> rfl
@[simp] theorem requestLampOpt_hoseCounters (h : HoseId) (l : Option Lamp) (s : State) :
    (requestLampOpt h l s).hoseCounters = s.hoseCounters := by cases l <;> rfl
@[simp] theorem requestLampOpt_alert (h : HoseId) (l : Option Lamp) (s : State) :
    (requestLampOpt h l s).alert = s.alert := by cases l <;> rfl
@[simp] theorem requestLampOpt_pending (h : HoseId) (l : Option Lamp) (s : State) :
    (requestLampOpt h l s).pending = s.pending := by cases l <;> rfl

/-! ### `enterHose`: a hose, its tag link, the console port and the alert -/
@[simp] theorem enterHose_started (h : HoseId) (x : HoseState) (l : Option Lamp) (s : State) :
    (enterHose h x l s).started = s.started := by simp [enterHose]
@[simp] theorem enterHose_cfg (h : HoseId) (x : HoseState) (l : Option Lamp) (s : State) :
    (enterHose h x l s).cfg = s.cfg := by simp [enterHose]
@[simp] theorem enterHose_tick (h : HoseId) (x : HoseState) (l : Option Lamp) (s : State) :
    (enterHose h x l s).tick = s.tick := by simp [enterHose]
@[simp] theorem enterHose_holdCounter (h : HoseId) (x : HoseState) (l : Option Lamp) (s : State) :
    (enterHose h x l s).holdCounter = s.holdCounter := by simp [enterHose]
@[simp] theorem enterHose_meters (h : HoseId) (x : HoseState) (l : Option Lamp) (s : State) :
    (enterHose h x l s).meters = s.meters := by simp [enterHose]
@[simp] theorem enterHose_vehicles (h : HoseId) (x : HoseState) (l : Option Lamp) (s : State) :
    (enterHose h x l s).vehicles = s.vehicles := by simp [enterHose]
@[simp] theorem enterHose_sigma (h : HoseId) (x : HoseState) (l : Option Lamp) (s : State) :
    (enterHose h x l s).sigma = s.sigma := by simp [enterHose]
@[simp] theorem enterHose_tableFullTick (h : HoseId) (x : HoseState) (l : Option Lamp) (s : State) :
    (enterHose h x l s).tableFullTick = s.tableFullTick := by simp [enterHose]
@[simp] theorem enterHose_tanks (h : HoseId) (x : HoseState) (l : Option Lamp) (s : State) :
    (enterHose h x l s).tanks = s.tanks := by simp [enterHose]
@[simp] theorem enterHose_holds (h : HoseId) (x : HoseState) (l : Option Lamp) (s : State) :
    (enterHose h x l s).holds = s.holds := by simp [enterHose]
@[simp] theorem enterHose_holdExpiries (h : HoseId) (x : HoseState) (l : Option Lamp) (s : State) :
    (enterHose h x l s).holdExpiries = s.holdExpiries := by simp [enterHose]
@[simp] theorem enterHose_portA (h : HoseId) (x : HoseState) (l : Option Lamp) (s : State) :
    (enterHose h x l s).portA = s.portA := by simp [enterHose]
@[simp] theorem enterHose_portB (h : HoseId) (x : HoseState) (l : Option Lamp) (s : State) :
    (enterHose h x l s).portB = s.portB := by simp [enterHose]
@[simp] theorem enterHose_walker (h : HoseId) (x : HoseState) (l : Option Lamp) (s : State) :
    (enterHose h x l s).walker = s.walker := by simp [enterHose]
@[simp] theorem enterHose_classCounters (h : HoseId) (x : HoseState) (l : Option Lamp) (s : State) :
    (enterHose h x l s).classCounters = s.classCounters := by simp [enterHose]
@[simp] theorem enterHose_hoseCounters (h : HoseId) (x : HoseState) (l : Option Lamp) (s : State) :
    (enterHose h x l s).hoseCounters = s.hoseCounters := by simp [enterHose]
@[simp] theorem enterHose_pending (h : HoseId) (x : HoseState) (l : Option Lamp) (s : State) :
    (enterHose h x l s).pending = s.pending := by simp [enterHose]

/-! ### `toClosing`: as `enterHose` -/
@[simp] theorem toClosing_started (h : HoseId) (r : EndReason) (b : Bool) (s : State) :
    (toClosing h r b s).started = s.started := by simp [toClosing]
@[simp] theorem toClosing_cfg (h : HoseId) (r : EndReason) (b : Bool) (s : State) :
    (toClosing h r b s).cfg = s.cfg := by simp [toClosing]
@[simp] theorem toClosing_tick (h : HoseId) (r : EndReason) (b : Bool) (s : State) :
    (toClosing h r b s).tick = s.tick := by simp [toClosing]
@[simp] theorem toClosing_holdCounter (h : HoseId) (r : EndReason) (b : Bool) (s : State) :
    (toClosing h r b s).holdCounter = s.holdCounter := by simp [toClosing]
@[simp] theorem toClosing_meters (h : HoseId) (r : EndReason) (b : Bool) (s : State) :
    (toClosing h r b s).meters = s.meters := by simp [toClosing]
@[simp] theorem toClosing_vehicles (h : HoseId) (r : EndReason) (b : Bool) (s : State) :
    (toClosing h r b s).vehicles = s.vehicles := by simp [toClosing]
@[simp] theorem toClosing_sigma (h : HoseId) (r : EndReason) (b : Bool) (s : State) :
    (toClosing h r b s).sigma = s.sigma := by simp [toClosing]
@[simp] theorem toClosing_tableFullTick (h : HoseId) (r : EndReason) (b : Bool) (s : State) :
    (toClosing h r b s).tableFullTick = s.tableFullTick := by simp [toClosing]
@[simp] theorem toClosing_tanks (h : HoseId) (r : EndReason) (b : Bool) (s : State) :
    (toClosing h r b s).tanks = s.tanks := by simp [toClosing]
@[simp] theorem toClosing_holds (h : HoseId) (r : EndReason) (b : Bool) (s : State) :
    (toClosing h r b s).holds = s.holds := by simp [toClosing]
@[simp] theorem toClosing_holdExpiries (h : HoseId) (r : EndReason) (b : Bool) (s : State) :
    (toClosing h r b s).holdExpiries = s.holdExpiries := by simp [toClosing]
@[simp] theorem toClosing_portA (h : HoseId) (r : EndReason) (b : Bool) (s : State) :
    (toClosing h r b s).portA = s.portA := by simp [toClosing]
@[simp] theorem toClosing_portB (h : HoseId) (r : EndReason) (b : Bool) (s : State) :
    (toClosing h r b s).portB = s.portB := by simp [toClosing]
@[simp] theorem toClosing_walker (h : HoseId) (r : EndReason) (b : Bool) (s : State) :
    (toClosing h r b s).walker = s.walker := by simp [toClosing]
@[simp] theorem toClosing_classCounters (h : HoseId) (r : EndReason) (b : Bool) (s : State) :
    (toClosing h r b s).classCounters = s.classCounters := by simp [toClosing]
@[simp] theorem toClosing_hoseCounters (h : HoseId) (r : EndReason) (b : Bool) (s : State) :
    (toClosing h r b s).hoseCounters = s.hoseCounters := by simp [toClosing]
@[simp] theorem toClosing_pending (h : HoseId) (r : EndReason) (b : Bool) (s : State) :
    (toClosing h r b s).pending = s.pending := by simp [toClosing]

/-! ### `closeTests`: as `enterHose` -/
@[simp] theorem closeTests_started (h : HoseId) (s : State) :
    (closeTests h s).started = s.started := by
  simp only [closeTests]; repeat' split
  all_goals simp
@[simp] theorem closeTests_cfg (h : HoseId) (s : State) :
    (closeTests h s).cfg = s.cfg := by
  simp only [closeTests]; repeat' split
  all_goals simp
@[simp] theorem closeTests_tick (h : HoseId) (s : State) :
    (closeTests h s).tick = s.tick := by
  simp only [closeTests]; repeat' split
  all_goals simp
@[simp] theorem closeTests_holdCounter (h : HoseId) (s : State) :
    (closeTests h s).holdCounter = s.holdCounter := by
  simp only [closeTests]; repeat' split
  all_goals simp
@[simp] theorem closeTests_meters (h : HoseId) (s : State) :
    (closeTests h s).meters = s.meters := by
  simp only [closeTests]; repeat' split
  all_goals simp
@[simp] theorem closeTests_vehicles (h : HoseId) (s : State) :
    (closeTests h s).vehicles = s.vehicles := by
  simp only [closeTests]; repeat' split
  all_goals simp
@[simp] theorem closeTests_sigma (h : HoseId) (s : State) :
    (closeTests h s).sigma = s.sigma := by
  simp only [closeTests]; repeat' split
  all_goals simp
@[simp] theorem closeTests_tableFullTick (h : HoseId) (s : State) :
    (closeTests h s).tableFullTick = s.tableFullTick := by
  simp only [closeTests]; repeat' split
  all_goals simp
@[simp] theorem closeTests_tanks (h : HoseId) (s : State) :
    (closeTests h s).tanks = s.tanks := by
  simp only [closeTests]; repeat' split
  all_goals simp
@[simp] theorem closeTests_holds (h : HoseId) (s : State) :
    (closeTests h s).holds = s.holds := by
  simp only [closeTests]; repeat' split
  all_goals simp
@[simp] theorem closeTests_holdExpiries (h : HoseId) (s : State) :
    (closeTests h s).holdExpiries = s.holdExpiries := by
  simp only [closeTests]; repeat' split
  all_goals simp
@[simp] theorem closeTests_portA (h : HoseId) (s : State) :
    (closeTests h s).portA = s.portA := by
  simp only [closeTests]; repeat' split
  all_goals simp
@[simp] theorem closeTests_portB (h : HoseId) (s : State) :
    (closeTests h s).portB = s.portB := by
  simp only [closeTests]; repeat' split
  all_goals simp
@[simp] theorem closeTests_walker (h : HoseId) (s : State) :
    (closeTests h s).walker = s.walker := by
  simp only [closeTests]; repeat' split
  all_goals simp
@[simp] theorem closeTests_classCounters (h : HoseId) (s : State) :
    (closeTests h s).classCounters = s.classCounters := by
  simp only [closeTests]; repeat' split
  all_goals simp
@[simp] theorem closeTests_hoseCounters (h : HoseId) (s : State) :
    (closeTests h s).hoseCounters = s.hoseCounters := by
  simp only [closeTests]; repeat' split
  all_goals simp
@[simp] theorem closeTests_pending (h : HoseId) (s : State) :
    (closeTests h s).pending = s.pending := by
  simp only [closeTests]; repeat' split
  all_goals simp

/-! ### `tryLeave`: as `enterHose` -/
@[simp] theorem tryLeave_started (h : HoseId) (s : State) :
    (tryLeave h s).started = s.started := by
  simp only [tryLeave]; repeat' split
  all_goals simp [forgetIssue]
@[simp] theorem tryLeave_cfg (h : HoseId) (s : State) :
    (tryLeave h s).cfg = s.cfg := by
  simp only [tryLeave]; repeat' split
  all_goals simp [forgetIssue]
@[simp] theorem tryLeave_tick (h : HoseId) (s : State) :
    (tryLeave h s).tick = s.tick := by
  simp only [tryLeave]; repeat' split
  all_goals simp [forgetIssue]
@[simp] theorem tryLeave_holdCounter (h : HoseId) (s : State) :
    (tryLeave h s).holdCounter = s.holdCounter := by
  simp only [tryLeave]; repeat' split
  all_goals simp [forgetIssue]
@[simp] theorem tryLeave_meters (h : HoseId) (s : State) :
    (tryLeave h s).meters = s.meters := by
  simp only [tryLeave]; repeat' split
  all_goals simp [forgetIssue]
@[simp] theorem tryLeave_vehicles (h : HoseId) (s : State) :
    (tryLeave h s).vehicles = s.vehicles := by
  simp only [tryLeave]; repeat' split
  all_goals simp [forgetIssue]
@[simp] theorem tryLeave_sigma (h : HoseId) (s : State) :
    (tryLeave h s).sigma = s.sigma := by
  simp only [tryLeave]; repeat' split
  all_goals simp [forgetIssue]
@[simp] theorem tryLeave_tableFullTick (h : HoseId) (s : State) :
    (tryLeave h s).tableFullTick = s.tableFullTick := by
  simp only [tryLeave]; repeat' split
  all_goals simp [forgetIssue]
@[simp] theorem tryLeave_tanks (h : HoseId) (s : State) :
    (tryLeave h s).tanks = s.tanks := by
  simp only [tryLeave]; repeat' split
  all_goals simp [forgetIssue]
@[simp] theorem tryLeave_holds (h : HoseId) (s : State) :
    (tryLeave h s).holds = s.holds := by
  simp only [tryLeave]; repeat' split
  all_goals simp [forgetIssue]
@[simp] theorem tryLeave_holdExpiries (h : HoseId) (s : State) :
    (tryLeave h s).holdExpiries = s.holdExpiries := by
  simp only [tryLeave]; repeat' split
  all_goals simp [forgetIssue]
@[simp] theorem tryLeave_portA (h : HoseId) (s : State) :
    (tryLeave h s).portA = s.portA := by
  simp only [tryLeave]; repeat' split
  all_goals simp [forgetIssue]
@[simp] theorem tryLeave_portB (h : HoseId) (s : State) :
    (tryLeave h s).portB = s.portB := by
  simp only [tryLeave]; repeat' split
  all_goals simp [forgetIssue]
@[simp] theorem tryLeave_walker (h : HoseId) (s : State) :
    (tryLeave h s).walker = s.walker := by
  simp only [tryLeave]; repeat' split
  all_goals simp [forgetIssue]
@[simp] theorem tryLeave_classCounters (h : HoseId) (s : State) :
    (tryLeave h s).classCounters = s.classCounters := by
  simp only [tryLeave]; repeat' split
  all_goals simp [forgetIssue]
@[simp] theorem tryLeave_hoseCounters (h : HoseId) (s : State) :
    (tryLeave h s).hoseCounters = s.hoseCounters := by
  simp only [tryLeave]; repeat' split
  all_goals simp [forgetIssue]
@[simp] theorem tryLeave_pending (h : HoseId) (s : State) :
    (tryLeave h s).pending = s.pending := by
  simp only [tryLeave]; repeat' split
  all_goals simp [forgetIssue]

/-! ### `enterRefused`: as `enterHose`, and the counters of a class -/
@[simp] theorem enterRefused_started (h : HoseId) (r : RefusalReason) (c : ClassId) (s : State) :
    (enterRefused h r c s).started = s.started := by
  simp [enterRefused, countRefusal, requestAlert, modTimers]
@[simp] theorem enterRefused_cfg (h : HoseId) (r : RefusalReason) (c : ClassId) (s : State) :
    (enterRefused h r c s).cfg = s.cfg := by
  simp [enterRefused, countRefusal, requestAlert, modTimers]
@[simp] theorem enterRefused_tick (h : HoseId) (r : RefusalReason) (c : ClassId) (s : State) :
    (enterRefused h r c s).tick = s.tick := by
  simp [enterRefused, countRefusal, requestAlert, modTimers]
@[simp] theorem enterRefused_holdCounter (h : HoseId) (r : RefusalReason) (c : ClassId) (s : State) :
    (enterRefused h r c s).holdCounter = s.holdCounter := by
  simp [enterRefused, countRefusal, requestAlert, modTimers]
@[simp] theorem enterRefused_meters (h : HoseId) (r : RefusalReason) (c : ClassId) (s : State) :
    (enterRefused h r c s).meters = s.meters := by
  simp [enterRefused, countRefusal, requestAlert, modTimers]
@[simp] theorem enterRefused_vehicles (h : HoseId) (r : RefusalReason) (c : ClassId) (s : State) :
    (enterRefused h r c s).vehicles = s.vehicles := by
  simp [enterRefused, countRefusal, requestAlert, modTimers]
@[simp] theorem enterRefused_sigma (h : HoseId) (r : RefusalReason) (c : ClassId) (s : State) :
    (enterRefused h r c s).sigma = s.sigma := by
  simp [enterRefused, countRefusal, requestAlert, modTimers]
@[simp] theorem enterRefused_tableFullTick (h : HoseId) (r : RefusalReason) (c : ClassId) (s : State) :
    (enterRefused h r c s).tableFullTick = s.tableFullTick := by
  simp [enterRefused, countRefusal, requestAlert, modTimers]
@[simp] theorem enterRefused_tanks (h : HoseId) (r : RefusalReason) (c : ClassId) (s : State) :
    (enterRefused h r c s).tanks = s.tanks := by
  simp [enterRefused, countRefusal, requestAlert, modTimers]
@[simp] theorem enterRefused_holds (h : HoseId) (r : RefusalReason) (c : ClassId) (s : State) :
    (enterRefused h r c s).holds = s.holds := by
  simp [enterRefused, countRefusal, requestAlert, modTimers]
@[simp] theorem enterRefused_holdExpiries (h : HoseId) (r : RefusalReason) (c : ClassId) (s : State) :
    (enterRefused h r c s).holdExpiries = s.holdExpiries := by
  simp [enterRefused, countRefusal, requestAlert, modTimers]
@[simp] theorem enterRefused_portA (h : HoseId) (r : RefusalReason) (c : ClassId) (s : State) :
    (enterRefused h r c s).portA = s.portA := by
  simp [enterRefused, countRefusal, requestAlert, modTimers]
@[simp] theorem enterRefused_portB (h : HoseId) (r : RefusalReason) (c : ClassId) (s : State) :
    (enterRefused h r c s).portB = s.portB := by
  simp [enterRefused, countRefusal, requestAlert, modTimers]
@[simp] theorem enterRefused_walker (h : HoseId) (r : RefusalReason) (c : ClassId) (s : State) :
    (enterRefused h r c s).walker = s.walker := by
  simp [enterRefused, countRefusal, requestAlert, modTimers]
@[simp] theorem enterRefused_hoseCounters (h : HoseId) (r : RefusalReason) (c : ClassId) (s : State) :
    (enterRefused h r c s).hoseCounters = s.hoseCounters := by
  simp [enterRefused, countRefusal, requestAlert, modTimers]
@[simp] theorem enterRefused_pending (h : HoseId) (r : RefusalReason) (c : ClassId) (s : State) :
    (enterRefused h r c s).pending = s.pending := by
  simp [enterRefused, countRefusal, requestAlert, modTimers]

/-! ### `deriveStatus`: the vehicle table and the console port -/
@[simp] theorem deriveStatus_started (v : Nat) (s : State) :
    (deriveStatus v s).started = s.started := by
  simp only [deriveStatus]; repeat' split
  all_goals simp [editVehicle]
@[simp] theorem deriveStatus_cfg (v : Nat) (s : State) :
    (deriveStatus v s).cfg = s.cfg := by
  simp only [deriveStatus]; repeat' split
  all_goals simp [editVehicle]
@[simp] theorem deriveStatus_tick (v : Nat) (s : State) :
    (deriveStatus v s).tick = s.tick := by
  simp only [deriveStatus]; repeat' split
  all_goals simp [editVehicle]
@[simp] theorem deriveStatus_hoses (v : Nat) (s : State) :
    (deriveStatus v s).hoses = s.hoses := by
  simp only [deriveStatus]; repeat' split
  all_goals simp [editVehicle]
@[simp] theorem deriveStatus_holdCounter (v : Nat) (s : State) :
    (deriveStatus v s).holdCounter = s.holdCounter := by
  simp only [deriveStatus]; repeat' split
  all_goals simp [editVehicle]
@[simp] theorem deriveStatus_meters (v : Nat) (s : State) :
    (deriveStatus v s).meters = s.meters := by
  simp only [deriveStatus]; repeat' split
  all_goals simp [editVehicle]
@[simp] theorem deriveStatus_tags (v : Nat) (s : State) :
    (deriveStatus v s).tags = s.tags := by
  simp only [deriveStatus]; repeat' split
  all_goals simp [editVehicle]
@[simp] theorem deriveStatus_sigma (v : Nat) (s : State) :
    (deriveStatus v s).sigma = s.sigma := by
  simp only [deriveStatus]; repeat' split
  all_goals simp [editVehicle]
@[simp] theorem deriveStatus_tableFullTick (v : Nat) (s : State) :
    (deriveStatus v s).tableFullTick = s.tableFullTick := by
  simp only [deriveStatus]; repeat' split
  all_goals simp [editVehicle]
@[simp] theorem deriveStatus_tanks (v : Nat) (s : State) :
    (deriveStatus v s).tanks = s.tanks := by
  simp only [deriveStatus]; repeat' split
  all_goals simp [editVehicle]
@[simp] theorem deriveStatus_holds (v : Nat) (s : State) :
    (deriveStatus v s).holds = s.holds := by
  simp only [deriveStatus]; repeat' split
  all_goals simp [editVehicle]
@[simp] theorem deriveStatus_holdExpiries (v : Nat) (s : State) :
    (deriveStatus v s).holdExpiries = s.holdExpiries := by
  simp only [deriveStatus]; repeat' split
  all_goals simp [editVehicle]
@[simp] theorem deriveStatus_portA (v : Nat) (s : State) :
    (deriveStatus v s).portA = s.portA := by
  simp only [deriveStatus]; repeat' split
  all_goals simp [editVehicle]
@[simp] theorem deriveStatus_portB (v : Nat) (s : State) :
    (deriveStatus v s).portB = s.portB := by
  simp only [deriveStatus]; repeat' split
  all_goals simp [editVehicle]
@[simp] theorem deriveStatus_walker (v : Nat) (s : State) :
    (deriveStatus v s).walker = s.walker := by
  simp only [deriveStatus]; repeat' split
  all_goals simp [editVehicle]
@[simp] theorem deriveStatus_classCounters (v : Nat) (s : State) :
    (deriveStatus v s).classCounters = s.classCounters := by
  simp only [deriveStatus]; repeat' split
  all_goals simp [editVehicle]
@[simp] theorem deriveStatus_hoseCounters (v : Nat) (s : State) :
    (deriveStatus v s).hoseCounters = s.hoseCounters := by
  simp only [deriveStatus]; repeat' split
  all_goals simp [editVehicle]
@[simp] theorem deriveStatus_alert (v : Nat) (s : State) :
    (deriveStatus v s).alert = s.alert := by
  simp only [deriveStatus]; repeat' split
  all_goals simp [editVehicle]
@[simp] theorem deriveStatus_pending (v : Nat) (s : State) :
    (deriveStatus v s).pending = s.pending := by
  simp only [deriveStatus]; repeat' split
  all_goals simp [editVehicle]

/-! ### `queueIssue`: the hose's pending set and the ports -/
@[simp] theorem queueIssue_started (h : HoseId) (f : Frame) (s : State) :
    (queueIssue h f s).started = s.started := by
  simp only [queueIssue, forPorts]; repeat' split
  all_goals simp
@[simp] theorem queueIssue_cfg (h : HoseId) (f : Frame) (s : State) :
    (queueIssue h f s).cfg = s.cfg := by
  simp only [queueIssue, forPorts]; repeat' split
  all_goals simp
@[simp] theorem queueIssue_tick (h : HoseId) (f : Frame) (s : State) :
    (queueIssue h f s).tick = s.tick := by
  simp only [queueIssue, forPorts]; repeat' split
  all_goals simp
@[simp] theorem queueIssue_holdCounter (h : HoseId) (f : Frame) (s : State) :
    (queueIssue h f s).holdCounter = s.holdCounter := by
  simp only [queueIssue, forPorts]; repeat' split
  all_goals simp
@[simp] theorem queueIssue_meters (h : HoseId) (f : Frame) (s : State) :
    (queueIssue h f s).meters = s.meters := by
  simp only [queueIssue, forPorts]; repeat' split
  all_goals simp
@[simp] theorem queueIssue_tags (h : HoseId) (f : Frame) (s : State) :
    (queueIssue h f s).tags = s.tags := by
  simp only [queueIssue, forPorts]; repeat' split
  all_goals simp
@[simp] theorem queueIssue_vehicles (h : HoseId) (f : Frame) (s : State) :
    (queueIssue h f s).vehicles = s.vehicles := by
  simp only [queueIssue, forPorts]; repeat' split
  all_goals simp
@[simp] theorem queueIssue_sigma (h : HoseId) (f : Frame) (s : State) :
    (queueIssue h f s).sigma = s.sigma := by
  simp only [queueIssue, forPorts]; repeat' split
  all_goals simp
@[simp] theorem queueIssue_tableFullTick (h : HoseId) (f : Frame) (s : State) :
    (queueIssue h f s).tableFullTick = s.tableFullTick := by
  simp only [queueIssue, forPorts]; repeat' split
  all_goals simp
@[simp] theorem queueIssue_tanks (h : HoseId) (f : Frame) (s : State) :
    (queueIssue h f s).tanks = s.tanks := by
  simp only [queueIssue, forPorts]; repeat' split
  all_goals simp
@[simp] theorem queueIssue_holds (h : HoseId) (f : Frame) (s : State) :
    (queueIssue h f s).holds = s.holds := by
  simp only [queueIssue, forPorts]; repeat' split
  all_goals simp
@[simp] theorem queueIssue_holdExpiries (h : HoseId) (f : Frame) (s : State) :
    (queueIssue h f s).holdExpiries = s.holdExpiries := by
  simp only [queueIssue, forPorts]; repeat' split
  all_goals simp
@[simp] theorem queueIssue_walker (h : HoseId) (f : Frame) (s : State) :
    (queueIssue h f s).walker = s.walker := by
  simp only [queueIssue, forPorts]; repeat' split
  all_goals simp
@[simp] theorem queueIssue_console (h : HoseId) (f : Frame) (s : State) :
    (queueIssue h f s).console = s.console := by
  simp only [queueIssue, forPorts]; repeat' split
  all_goals simp
@[simp] theorem queueIssue_classCounters (h : HoseId) (f : Frame) (s : State) :
    (queueIssue h f s).classCounters = s.classCounters := by
  simp only [queueIssue, forPorts]; repeat' split
  all_goals simp
@[simp] theorem queueIssue_hoseCounters (h : HoseId) (f : Frame) (s : State) :
    (queueIssue h f s).hoseCounters = s.hoseCounters := by
  simp only [queueIssue, forPorts]; repeat' split
  all_goals simp
@[simp] theorem queueIssue_alert (h : HoseId) (f : Frame) (s : State) :
    (queueIssue h f s).alert = s.alert := by
  simp only [queueIssue, forPorts]; repeat' split
  all_goals simp
@[simp] theorem queueIssue_pending (h : HoseId) (f : Frame) (s : State) :
    (queueIssue h f s).pending = s.pending := by
  simp only [queueIssue, forPorts]; repeat' split
  all_goals simp

/-! ### `offerOne`: a hose's reservations -/
@[simp] theorem offerOne_started (p : PortId) (h : HoseId) (s : State) :
    (offerOne p h s).started = s.started := by
  simp only [offerOne]; split <;> simp
@[simp] theorem offerOne_cfg (p : PortId) (h : HoseId) (s : State) :
    (offerOne p h s).cfg = s.cfg := by
  simp only [offerOne]; split <;> simp
@[simp] theorem offerOne_tick (p : PortId) (h : HoseId) (s : State) :
    (offerOne p h s).tick = s.tick := by
  simp only [offerOne]; split <;> simp
@[simp] theorem offerOne_holdCounter (p : PortId) (h : HoseId) (s : State) :
    (offerOne p h s).holdCounter = s.holdCounter := by
  simp only [offerOne]; split <;> simp
@[simp] theorem offerOne_meters (p : PortId) (h : HoseId) (s : State) :
    (offerOne p h s).meters = s.meters := by
  simp only [offerOne]; split <;> simp
@[simp] theorem offerOne_tags (p : PortId) (h : HoseId) (s : State) :
    (offerOne p h s).tags = s.tags := by
  simp only [offerOne]; split <;> simp
@[simp] theorem offerOne_vehicles (p : PortId) (h : HoseId) (s : State) :
    (offerOne p h s).vehicles = s.vehicles := by
  simp only [offerOne]; split <;> simp
@[simp] theorem offerOne_sigma (p : PortId) (h : HoseId) (s : State) :
    (offerOne p h s).sigma = s.sigma := by
  simp only [offerOne]; split <;> simp
@[simp] theorem offerOne_tableFullTick (p : PortId) (h : HoseId) (s : State) :
    (offerOne p h s).tableFullTick = s.tableFullTick := by
  simp only [offerOne]; split <;> simp
@[simp] theorem offerOne_tanks (p : PortId) (h : HoseId) (s : State) :
    (offerOne p h s).tanks = s.tanks := by
  simp only [offerOne]; split <;> simp
@[simp] theorem offerOne_holds (p : PortId) (h : HoseId) (s : State) :
    (offerOne p h s).holds = s.holds := by
  simp only [offerOne]; split <;> simp
@[simp] theorem offerOne_holdExpiries (p : PortId) (h : HoseId) (s : State) :
    (offerOne p h s).holdExpiries = s.holdExpiries := by
  simp only [offerOne]; split <;> simp
@[simp] theorem offerOne_portA (p : PortId) (h : HoseId) (s : State) :
    (offerOne p h s).portA = s.portA := by
  simp only [offerOne]; split <;> simp
@[simp] theorem offerOne_portB (p : PortId) (h : HoseId) (s : State) :
    (offerOne p h s).portB = s.portB := by
  simp only [offerOne]; split <;> simp
@[simp] theorem offerOne_walker (p : PortId) (h : HoseId) (s : State) :
    (offerOne p h s).walker = s.walker := by
  simp only [offerOne]; split <;> simp
@[simp] theorem offerOne_console (p : PortId) (h : HoseId) (s : State) :
    (offerOne p h s).console = s.console := by
  simp only [offerOne]; split <;> simp
@[simp] theorem offerOne_classCounters (p : PortId) (h : HoseId) (s : State) :
    (offerOne p h s).classCounters = s.classCounters := by
  simp only [offerOne]; split <;> simp
@[simp] theorem offerOne_hoseCounters (p : PortId) (h : HoseId) (s : State) :
    (offerOne p h s).hoseCounters = s.hoseCounters := by
  simp only [offerOne]; split <;> simp
@[simp] theorem offerOne_alert (p : PortId) (h : HoseId) (s : State) :
    (offerOne p h s).alert = s.alert := by
  simp only [offerOne]; split <;> simp
@[simp] theorem offerOne_pending (p : PortId) (h : HoseId) (s : State) :
    (offerOne p h s).pending = s.pending := by
  simp only [offerOne]; split <;> simp

/-! ### `offerUrgent`: the hoses' reservations -/
@[simp] theorem offerUrgent_started (p : PortId) (s : State) :
    (offerUrgent p s).started = s.started := by
  simp [offerUrgent, forHoses]
@[simp] theorem offerUrgent_cfg (p : PortId) (s : State) :
    (offerUrgent p s).cfg = s.cfg := by
  simp [offerUrgent, forHoses]
@[simp] theorem offerUrgent_tick (p : PortId) (s : State) :
    (offerUrgent p s).tick = s.tick := by
  simp [offerUrgent, forHoses]
@[simp] theorem offerUrgent_holdCounter (p : PortId) (s : State) :
    (offerUrgent p s).holdCounter = s.holdCounter := by
  simp [offerUrgent, forHoses]
@[simp] theorem offerUrgent_meters (p : PortId) (s : State) :
    (offerUrgent p s).meters = s.meters := by
  simp [offerUrgent, forHoses]
@[simp] theorem offerUrgent_tags (p : PortId) (s : State) :
    (offerUrgent p s).tags = s.tags := by
  simp [offerUrgent, forHoses]
@[simp] theorem offerUrgent_vehicles (p : PortId) (s : State) :
    (offerUrgent p s).vehicles = s.vehicles := by
  simp [offerUrgent, forHoses]
@[simp] theorem offerUrgent_sigma (p : PortId) (s : State) :
    (offerUrgent p s).sigma = s.sigma := by
  simp [offerUrgent, forHoses]
@[simp] theorem offerUrgent_tableFullTick (p : PortId) (s : State) :
    (offerUrgent p s).tableFullTick = s.tableFullTick := by
  simp [offerUrgent, forHoses]
@[simp] theorem offerUrgent_tanks (p : PortId) (s : State) :
    (offerUrgent p s).tanks = s.tanks := by
  simp [offerUrgent, forHoses]
@[simp] theorem offerUrgent_holds (p : PortId) (s : State) :
    (offerUrgent p s).holds = s.holds := by
  simp [offerUrgent, forHoses]
@[simp] theorem offerUrgent_holdExpiries (p : PortId) (s : State) :
    (offerUrgent p s).holdExpiries = s.holdExpiries := by
  simp [offerUrgent, forHoses]
@[simp] theorem offerUrgent_portA (p : PortId) (s : State) :
    (offerUrgent p s).portA = s.portA := by
  simp [offerUrgent, forHoses]
@[simp] theorem offerUrgent_portB (p : PortId) (s : State) :
    (offerUrgent p s).portB = s.portB := by
  simp [offerUrgent, forHoses]
@[simp] theorem offerUrgent_walker (p : PortId) (s : State) :
    (offerUrgent p s).walker = s.walker := by
  simp [offerUrgent, forHoses]
@[simp] theorem offerUrgent_console (p : PortId) (s : State) :
    (offerUrgent p s).console = s.console := by
  simp [offerUrgent, forHoses]
@[simp] theorem offerUrgent_classCounters (p : PortId) (s : State) :
    (offerUrgent p s).classCounters = s.classCounters := by
  simp [offerUrgent, forHoses]
@[simp] theorem offerUrgent_hoseCounters (p : PortId) (s : State) :
    (offerUrgent p s).hoseCounters = s.hoseCounters := by
  simp [offerUrgent, forHoses]
@[simp] theorem offerUrgent_alert (p : PortId) (s : State) :
    (offerUrgent p s).alert = s.alert := by
  simp [offerUrgent, forHoses]
@[simp] theorem offerUrgent_pending (p : PortId) (s : State) :
    (offerUrgent p s).pending = s.pending := by
  simp [offerUrgent, forHoses]

/-! ### `creditDispense`: the vehicle table and the tanks -/
@[simp] theorem creditDispense_started (d : Dispense) (v : Nat) (s : State) :
    (creditDispense d v s).started = s.started := by
  simp only [creditDispense]; split <;> simp [editVehicle]
@[simp] theorem creditDispense_cfg (d : Dispense) (v : Nat) (s : State) :
    (creditDispense d v s).cfg = s.cfg := by
  simp only [creditDispense]; split <;> simp [editVehicle]
@[simp] theorem creditDispense_tick (d : Dispense) (v : Nat) (s : State) :
    (creditDispense d v s).tick = s.tick := by
  simp only [creditDispense]; split <;> simp [editVehicle]
@[simp] theorem creditDispense_hoses (d : Dispense) (v : Nat) (s : State) :
    (creditDispense d v s).hoses = s.hoses := by
  simp only [creditDispense]; split <;> simp [editVehicle]
@[simp] theorem creditDispense_holdCounter (d : Dispense) (v : Nat) (s : State) :
    (creditDispense d v s).holdCounter = s.holdCounter := by
  simp only [creditDispense]; split <;> simp [editVehicle]
@[simp] theorem creditDispense_meters (d : Dispense) (v : Nat) (s : State) :
    (creditDispense d v s).meters = s.meters := by
  simp only [creditDispense]; split <;> simp [editVehicle]
@[simp] theorem creditDispense_tags (d : Dispense) (v : Nat) (s : State) :
    (creditDispense d v s).tags = s.tags := by
  simp only [creditDispense]; split <;> simp [editVehicle]
@[simp] theorem creditDispense_sigma (d : Dispense) (v : Nat) (s : State) :
    (creditDispense d v s).sigma = s.sigma := by
  simp only [creditDispense]; split <;> simp [editVehicle]
@[simp] theorem creditDispense_tableFullTick (d : Dispense) (v : Nat) (s : State) :
    (creditDispense d v s).tableFullTick = s.tableFullTick := by
  simp only [creditDispense]; split <;> simp [editVehicle]
@[simp] theorem creditDispense_holds (d : Dispense) (v : Nat) (s : State) :
    (creditDispense d v s).holds = s.holds := by
  simp only [creditDispense]; split <;> simp [editVehicle]
@[simp] theorem creditDispense_holdExpiries (d : Dispense) (v : Nat) (s : State) :
    (creditDispense d v s).holdExpiries = s.holdExpiries := by
  simp only [creditDispense]; split <;> simp [editVehicle]
@[simp] theorem creditDispense_portA (d : Dispense) (v : Nat) (s : State) :
    (creditDispense d v s).portA = s.portA := by
  simp only [creditDispense]; split <;> simp [editVehicle]
@[simp] theorem creditDispense_portB (d : Dispense) (v : Nat) (s : State) :
    (creditDispense d v s).portB = s.portB := by
  simp only [creditDispense]; split <;> simp [editVehicle]
@[simp] theorem creditDispense_walker (d : Dispense) (v : Nat) (s : State) :
    (creditDispense d v s).walker = s.walker := by
  simp only [creditDispense]; split <;> simp [editVehicle]
@[simp] theorem creditDispense_console (d : Dispense) (v : Nat) (s : State) :
    (creditDispense d v s).console = s.console := by
  simp only [creditDispense]; split <;> simp [editVehicle]
@[simp] theorem creditDispense_classCounters (d : Dispense) (v : Nat) (s : State) :
    (creditDispense d v s).classCounters = s.classCounters := by
  simp only [creditDispense]; split <;> simp [editVehicle]
@[simp] theorem creditDispense_hoseCounters (d : Dispense) (v : Nat) (s : State) :
    (creditDispense d v s).hoseCounters = s.hoseCounters := by
  simp only [creditDispense]; split <;> simp [editVehicle]
@[simp] theorem creditDispense_alert (d : Dispense) (v : Nat) (s : State) :
    (creditDispense d v s).alert = s.alert := by
  simp only [creditDispense]; split <;> simp [editVehicle]
@[simp] theorem creditDispense_pending (d : Dispense) (v : Nat) (s : State) :
    (creditDispense d v s).pending = s.pending := by
  simp only [creditDispense]; split <;> simp [editVehicle]

/-! ### `offerUrgentAll`: the hoses' reservations -/
@[simp] theorem offerUrgentAll_started (s : State) :
    (offerUrgentAll s).started = s.started := by
  simp [offerUrgentAll, forPorts]
@[simp] theorem offerUrgentAll_cfg (s : State) :
    (offerUrgentAll s).cfg = s.cfg := by
  simp [offerUrgentAll, forPorts]
@[simp] theorem offerUrgentAll_tick (s : State) :
    (offerUrgentAll s).tick = s.tick := by
  simp [offerUrgentAll, forPorts]
@[simp] theorem offerUrgentAll_holdCounter (s : State) :
    (offerUrgentAll s).holdCounter = s.holdCounter := by
  simp [offerUrgentAll, forPorts]
@[simp] theorem offerUrgentAll_meters (s : State) :
    (offerUrgentAll s).meters = s.meters := by
  simp [offerUrgentAll, forPorts]
@[simp] theorem offerUrgentAll_tags (s : State) :
    (offerUrgentAll s).tags = s.tags := by
  simp [offerUrgentAll, forPorts]
@[simp] theorem offerUrgentAll_vehicles (s : State) :
    (offerUrgentAll s).vehicles = s.vehicles := by
  simp [offerUrgentAll, forPorts]
@[simp] theorem offerUrgentAll_sigma (s : State) :
    (offerUrgentAll s).sigma = s.sigma := by
  simp [offerUrgentAll, forPorts]
@[simp] theorem offerUrgentAll_tableFullTick (s : State) :
    (offerUrgentAll s).tableFullTick = s.tableFullTick := by
  simp [offerUrgentAll, forPorts]
@[simp] theorem offerUrgentAll_tanks (s : State) :
    (offerUrgentAll s).tanks = s.tanks := by
  simp [offerUrgentAll, forPorts]
@[simp] theorem offerUrgentAll_holds (s : State) :
    (offerUrgentAll s).holds = s.holds := by
  simp [offerUrgentAll, forPorts]
@[simp] theorem offerUrgentAll_holdExpiries (s : State) :
    (offerUrgentAll s).holdExpiries = s.holdExpiries := by
  simp [offerUrgentAll, forPorts]
@[simp] theorem offerUrgentAll_portA (s : State) :
    (offerUrgentAll s).portA = s.portA := by
  simp [offerUrgentAll, forPorts]
@[simp] theorem offerUrgentAll_portB (s : State) :
    (offerUrgentAll s).portB = s.portB := by
  simp [offerUrgentAll, forPorts]
@[simp] theorem offerUrgentAll_walker (s : State) :
    (offerUrgentAll s).walker = s.walker := by
  simp [offerUrgentAll, forPorts]
@[simp] theorem offerUrgentAll_console (s : State) :
    (offerUrgentAll s).console = s.console := by
  simp [offerUrgentAll, forPorts]
@[simp] theorem offerUrgentAll_classCounters (s : State) :
    (offerUrgentAll s).classCounters = s.classCounters := by
  simp [offerUrgentAll, forPorts]
@[simp] theorem offerUrgentAll_hoseCounters (s : State) :
    (offerUrgentAll s).hoseCounters = s.hoseCounters := by
  simp [offerUrgentAll, forPorts]
@[simp] theorem offerUrgentAll_alert (s : State) :
    (offerUrgentAll s).alert = s.alert := by
  simp [offerUrgentAll, forPorts]
@[simp] theorem offerUrgentAll_pending (s : State) :
    (offerUrgentAll s).pending = s.pending := by
  simp [offerUrgentAll, forPorts]

/-! ### `account`: the account of a dispense -/
@[simp] theorem account_started (h : HoseId) (d : Dispense) (r : EndReason) (g v c : Nat) (l : Bool)
    (s : State) : (account h d r g v c l s).started = s.started := by
  simp [account, startLate, countDispense, removeOwnHold]
@[simp] theorem account_cfg (h : HoseId) (d : Dispense) (r : EndReason) (g v c : Nat) (l : Bool)
    (s : State) : (account h d r g v c l s).cfg = s.cfg := by
  simp [account, startLate, countDispense, removeOwnHold]
@[simp] theorem account_tick (h : HoseId) (d : Dispense) (r : EndReason) (g v c : Nat) (l : Bool)
    (s : State) : (account h d r g v c l s).tick = s.tick := by
  simp [account, startLate, countDispense, removeOwnHold]
@[simp] theorem account_holdCounter (h : HoseId) (d : Dispense) (r : EndReason) (g v c : Nat) (l : Bool)
    (s : State) : (account h d r g v c l s).holdCounter = s.holdCounter := by
  simp [account, startLate, countDispense, removeOwnHold]
@[simp] theorem account_tags (h : HoseId) (d : Dispense) (r : EndReason) (g v c : Nat) (l : Bool)
    (s : State) : (account h d r g v c l s).tags = s.tags := by
  simp [account, startLate, countDispense, removeOwnHold]
@[simp] theorem account_sigma (h : HoseId) (d : Dispense) (r : EndReason) (g v c : Nat) (l : Bool)
    (s : State) : (account h d r g v c l s).sigma = s.sigma := by
  simp [account, startLate, countDispense, removeOwnHold]
@[simp] theorem account_tableFullTick (h : HoseId) (d : Dispense) (r : EndReason) (g v c : Nat) (l : Bool)
    (s : State) : (account h d r g v c l s).tableFullTick = s.tableFullTick := by
  simp [account, startLate, countDispense, removeOwnHold]
@[simp] theorem account_holdExpiries (h : HoseId) (d : Dispense) (r : EndReason) (g v c : Nat) (l : Bool)
    (s : State) : (account h d r g v c l s).holdExpiries = s.holdExpiries := by
  simp [account, startLate, countDispense, removeOwnHold]
@[simp] theorem account_portA (h : HoseId) (d : Dispense) (r : EndReason) (g v c : Nat) (l : Bool)
    (s : State) : (account h d r g v c l s).portA = s.portA := by
  simp [account, startLate, countDispense, removeOwnHold]
@[simp] theorem account_portB (h : HoseId) (d : Dispense) (r : EndReason) (g v c : Nat) (l : Bool)
    (s : State) : (account h d r g v c l s).portB = s.portB := by
  simp [account, startLate, countDispense, removeOwnHold]
@[simp] theorem account_walker (h : HoseId) (d : Dispense) (r : EndReason) (g v c : Nat) (l : Bool)
    (s : State) : (account h d r g v c l s).walker = s.walker := by
  simp [account, startLate, countDispense, removeOwnHold]
@[simp] theorem account_hoseCounters (h : HoseId) (d : Dispense) (r : EndReason) (g v c : Nat) (l : Bool)
    (s : State) : (account h d r g v c l s).hoseCounters = s.hoseCounters := by
  simp [account, startLate, countDispense, removeOwnHold]
@[simp] theorem account_alert (h : HoseId) (d : Dispense) (r : EndReason) (g v c : Nat) (l : Bool)
    (s : State) : (account h d r g v c l s).alert = s.alert := by
  simp [account, startLate, countDispense, removeOwnHold]
@[simp] theorem account_pending (h : HoseId) (d : Dispense) (r : EndReason) (g v c : Nat) (l : Bool)
    (s : State) : (account h d r g v c l s).pending = s.pending := by
  simp [account, startLate, countDispense, removeOwnHold]

/-! ### `endProcessing`: the account of a dispense, and its ISSUE -/
@[simp] theorem endProcessing_started (h : HoseId) (r : EndReason) (a b : Bool) (s : State) :
    (endProcessing h r a b s).started = s.started := by
  simp only [endProcessing]; split
  · rfl
  · simp
@[simp] theorem endProcessing_cfg (h : HoseId) (r : EndReason) (a b : Bool) (s : State) :
    (endProcessing h r a b s).cfg = s.cfg := by
  simp only [endProcessing]; split
  · rfl
  · simp
@[simp] theorem endProcessing_tick (h : HoseId) (r : EndReason) (a b : Bool) (s : State) :
    (endProcessing h r a b s).tick = s.tick := by
  simp only [endProcessing]; split
  · rfl
  · simp
@[simp] theorem endProcessing_holdCounter (h : HoseId) (r : EndReason) (a b : Bool) (s : State) :
    (endProcessing h r a b s).holdCounter = s.holdCounter := by
  simp only [endProcessing]; split
  · rfl
  · simp
@[simp] theorem endProcessing_tags (h : HoseId) (r : EndReason) (a b : Bool) (s : State) :
    (endProcessing h r a b s).tags = s.tags := by
  simp only [endProcessing]; split
  · rfl
  · simp
@[simp] theorem endProcessing_sigma (h : HoseId) (r : EndReason) (a b : Bool) (s : State) :
    (endProcessing h r a b s).sigma = s.sigma := by
  simp only [endProcessing]; split
  · rfl
  · simp
@[simp] theorem endProcessing_tableFullTick (h : HoseId) (r : EndReason) (a b : Bool) (s : State) :
    (endProcessing h r a b s).tableFullTick = s.tableFullTick := by
  simp only [endProcessing]; split
  · rfl
  · simp
@[simp] theorem endProcessing_holdExpiries (h : HoseId) (r : EndReason) (a b : Bool) (s : State) :
    (endProcessing h r a b s).holdExpiries = s.holdExpiries := by
  simp only [endProcessing]; split
  · rfl
  · simp
@[simp] theorem endProcessing_walker (h : HoseId) (r : EndReason) (a b : Bool) (s : State) :
    (endProcessing h r a b s).walker = s.walker := by
  simp only [endProcessing]; split
  · rfl
  · simp
@[simp] theorem endProcessing_hoseCounters (h : HoseId) (r : EndReason) (a b : Bool) (s : State) :
    (endProcessing h r a b s).hoseCounters = s.hoseCounters := by
  simp only [endProcessing]; split
  · rfl
  · simp
@[simp] theorem endProcessing_alert (h : HoseId) (r : EndReason) (a b : Bool) (s : State) :
    (endProcessing h r a b s).alert = s.alert := by
  simp only [endProcessing]; split
  · rfl
  · simp
@[simp] theorem endProcessing_pending (h : HoseId) (r : EndReason) (a b : Bool) (s : State) :
    (endProcessing h r a b s).pending = s.pending := by
  simp only [endProcessing]; split
  · rfl
  · simp

/-! ### `endFromHolding`: end processing and the hose's moves -/
@[simp] theorem endFromHolding_started (h : HoseId) (r : EndReason) (b : Bool) (s : State) :
    (endFromHolding h r b s).started = s.started := by
  simp [endFromHolding]
@[simp] theorem endFromHolding_cfg (h : HoseId) (r : EndReason) (b : Bool) (s : State) :
    (endFromHolding h r b s).cfg = s.cfg := by
  simp [endFromHolding]
@[simp] theorem endFromHolding_tick (h : HoseId) (r : EndReason) (b : Bool) (s : State) :
    (endFromHolding h r b s).tick = s.tick := by
  simp [endFromHolding]
@[simp] theorem endFromHolding_holdCounter (h : HoseId) (r : EndReason) (b : Bool) (s : State) :
    (endFromHolding h r b s).holdCounter = s.holdCounter := by
  simp [endFromHolding]
@[simp] theorem endFromHolding_sigma (h : HoseId) (r : EndReason) (b : Bool) (s : State) :
    (endFromHolding h r b s).sigma = s.sigma := by
  simp [endFromHolding]
@[simp] theorem endFromHolding_tableFullTick (h : HoseId) (r : EndReason) (b : Bool) (s : State) :
    (endFromHolding h r b s).tableFullTick = s.tableFullTick := by
  simp [endFromHolding]
@[simp] theorem endFromHolding_holdExpiries (h : HoseId) (r : EndReason) (b : Bool) (s : State) :
    (endFromHolding h r b s).holdExpiries = s.holdExpiries := by
  simp [endFromHolding]
@[simp] theorem endFromHolding_walker (h : HoseId) (r : EndReason) (b : Bool) (s : State) :
    (endFromHolding h r b s).walker = s.walker := by
  simp [endFromHolding]
@[simp] theorem endFromHolding_hoseCounters (h : HoseId) (r : EndReason) (b : Bool) (s : State) :
    (endFromHolding h r b s).hoseCounters = s.hoseCounters := by
  simp [endFromHolding]
@[simp] theorem endFromHolding_pending (h : HoseId) (r : EndReason) (b : Bool) (s : State) :
    (endFromHolding h r b s).pending = s.pending := by
  simp [endFromHolding]

/-! ### `endFromClosing`: end processing and the hose's moves -/
@[simp] theorem endFromClosing_started (h : HoseId) (s : State) :
    (endFromClosing h s).started = s.started := by
  simp only [endFromClosing]; split
  · rfl
  · simp [modTimers]
@[simp] theorem endFromClosing_cfg (h : HoseId) (s : State) :
    (endFromClosing h s).cfg = s.cfg := by
  simp only [endFromClosing]; split
  · rfl
  · simp [modTimers]
@[simp] theorem endFromClosing_tick (h : HoseId) (s : State) :
    (endFromClosing h s).tick = s.tick := by
  simp only [endFromClosing]; split
  · rfl
  · simp [modTimers]
@[simp] theorem endFromClosing_holdCounter (h : HoseId) (s : State) :
    (endFromClosing h s).holdCounter = s.holdCounter := by
  simp only [endFromClosing]; split
  · rfl
  · simp [modTimers]
@[simp] theorem endFromClosing_sigma (h : HoseId) (s : State) :
    (endFromClosing h s).sigma = s.sigma := by
  simp only [endFromClosing]; split
  · rfl
  · simp [modTimers]
@[simp] theorem endFromClosing_tableFullTick (h : HoseId) (s : State) :
    (endFromClosing h s).tableFullTick = s.tableFullTick := by
  simp only [endFromClosing]; split
  · rfl
  · simp [modTimers]
@[simp] theorem endFromClosing_holdExpiries (h : HoseId) (s : State) :
    (endFromClosing h s).holdExpiries = s.holdExpiries := by
  simp only [endFromClosing]; split
  · rfl
  · simp [modTimers]
@[simp] theorem endFromClosing_walker (h : HoseId) (s : State) :
    (endFromClosing h s).walker = s.walker := by
  simp only [endFromClosing]; split
  · rfl
  · simp [modTimers]
@[simp] theorem endFromClosing_hoseCounters (h : HoseId) (s : State) :
    (endFromClosing h s).hoseCounters = s.hoseCounters := by
  simp only [endFromClosing]; split
  · rfl
  · simp [modTimers]
@[simp] theorem endFromClosing_pending (h : HoseId) (s : State) :
    (endFromClosing h s).pending = s.pending := by
  simp only [endFromClosing]; split
  · rfl
  · simp [modTimers]

/-! ### `endDispense`: end processing and the hose's moves -/
@[simp] theorem endDispense_started (h : HoseId) (r : EndReason) (b : Bool) (s : State) :
    (endDispense h r b s).started = s.started := by
  simp only [endDispense]; repeat' split
  all_goals simp
@[simp] theorem endDispense_cfg (h : HoseId) (r : EndReason) (b : Bool) (s : State) :
    (endDispense h r b s).cfg = s.cfg := by
  simp only [endDispense]; repeat' split
  all_goals simp
@[simp] theorem endDispense_tick (h : HoseId) (r : EndReason) (b : Bool) (s : State) :
    (endDispense h r b s).tick = s.tick := by
  simp only [endDispense]; repeat' split
  all_goals simp
@[simp] theorem endDispense_holdCounter (h : HoseId) (r : EndReason) (b : Bool) (s : State) :
    (endDispense h r b s).holdCounter = s.holdCounter := by
  simp only [endDispense]; repeat' split
  all_goals simp
@[simp] theorem endDispense_sigma (h : HoseId) (r : EndReason) (b : Bool) (s : State) :
    (endDispense h r b s).sigma = s.sigma := by
  simp only [endDispense]; repeat' split
  all_goals simp
@[simp] theorem endDispense_tableFullTick (h : HoseId) (r : EndReason) (b : Bool) (s : State) :
    (endDispense h r b s).tableFullTick = s.tableFullTick := by
  simp only [endDispense]; repeat' split
  all_goals simp
@[simp] theorem endDispense_holdExpiries (h : HoseId) (r : EndReason) (b : Bool) (s : State) :
    (endDispense h r b s).holdExpiries = s.holdExpiries := by
  simp only [endDispense]; repeat' split
  all_goals simp
@[simp] theorem endDispense_walker (h : HoseId) (r : EndReason) (b : Bool) (s : State) :
    (endDispense h r b s).walker = s.walker := by
  simp only [endDispense]; repeat' split
  all_goals simp
@[simp] theorem endDispense_hoseCounters (h : HoseId) (r : EndReason) (b : Bool) (s : State) :
    (endDispense h r b s).hoseCounters = s.hoseCounters := by
  simp only [endDispense]; repeat' split
  all_goals simp
@[simp] theorem endDispense_pending (h : HoseId) (r : EndReason) (b : Bool) (s : State) :
    (endDispense h r b s).pending = s.pending := by
  simp only [endDispense]; repeat' split
  all_goals simp

/-! ### `cutoffHose`: end processing and the hose's moves -/
@[simp] theorem cutoffHose_started (k : TankId) (h : HoseId) (s : State) :
    (cutoffHose k h s).started = s.started := by
  simp only [cutoffHose]; repeat' split
  all_goals simp
@[simp] theorem cutoffHose_cfg (k : TankId) (h : HoseId) (s : State) :
    (cutoffHose k h s).cfg = s.cfg := by
  simp only [cutoffHose]; repeat' split
  all_goals simp
@[simp] theorem cutoffHose_tick (k : TankId) (h : HoseId) (s : State) :
    (cutoffHose k h s).tick = s.tick := by
  simp only [cutoffHose]; repeat' split
  all_goals simp
@[simp] theorem cutoffHose_holdCounter (k : TankId) (h : HoseId) (s : State) :
    (cutoffHose k h s).holdCounter = s.holdCounter := by
  simp only [cutoffHose]; repeat' split
  all_goals simp
@[simp] theorem cutoffHose_sigma (k : TankId) (h : HoseId) (s : State) :
    (cutoffHose k h s).sigma = s.sigma := by
  simp only [cutoffHose]; repeat' split
  all_goals simp
@[simp] theorem cutoffHose_tableFullTick (k : TankId) (h : HoseId) (s : State) :
    (cutoffHose k h s).tableFullTick = s.tableFullTick := by
  simp only [cutoffHose]; repeat' split
  all_goals simp
@[simp] theorem cutoffHose_holdExpiries (k : TankId) (h : HoseId) (s : State) :
    (cutoffHose k h s).holdExpiries = s.holdExpiries := by
  simp only [cutoffHose]; repeat' split
  all_goals simp
@[simp] theorem cutoffHose_walker (k : TankId) (h : HoseId) (s : State) :
    (cutoffHose k h s).walker = s.walker := by
  simp only [cutoffHose]; repeat' split
  all_goals simp
@[simp] theorem cutoffHose_hoseCounters (k : TankId) (h : HoseId) (s : State) :
    (cutoffHose k h s).hoseCounters = s.hoseCounters := by
  simp only [cutoffHose]; repeat' split
  all_goals simp
@[simp] theorem cutoffHose_pending (k : TankId) (h : HoseId) (s : State) :
    (cutoffHose k h s).pending = s.pending := by
  simp only [cutoffHose]; repeat' split
  all_goals simp

/-! ### `settleTank`: the tanks, and what the CUTOFF signal ends -/
@[simp] theorem settleTank_started (k : TankId) (s : State) :
    (settleTank k s).started = s.started := by
  simp only [settleTank, forHoses]; repeat' split
  all_goals simp
@[simp] theorem settleTank_cfg (k : TankId) (s : State) :
    (settleTank k s).cfg = s.cfg := by
  simp only [settleTank, forHoses]; repeat' split
  all_goals simp
@[simp] theorem settleTank_tick (k : TankId) (s : State) :
    (settleTank k s).tick = s.tick := by
  simp only [settleTank, forHoses]; repeat' split
  all_goals simp
@[simp] theorem settleTank_holdCounter (k : TankId) (s : State) :
    (settleTank k s).holdCounter = s.holdCounter := by
  simp only [settleTank, forHoses]; repeat' split
  all_goals simp
@[simp] theorem settleTank_sigma (k : TankId) (s : State) :
    (settleTank k s).sigma = s.sigma := by
  simp only [settleTank, forHoses]; repeat' split
  all_goals simp
@[simp] theorem settleTank_tableFullTick (k : TankId) (s : State) :
    (settleTank k s).tableFullTick = s.tableFullTick := by
  simp only [settleTank, forHoses]; repeat' split
  all_goals simp
@[simp] theorem settleTank_holdExpiries (k : TankId) (s : State) :
    (settleTank k s).holdExpiries = s.holdExpiries := by
  simp only [settleTank, forHoses]; repeat' split
  all_goals simp
@[simp] theorem settleTank_walker (k : TankId) (s : State) :
    (settleTank k s).walker = s.walker := by
  simp only [settleTank, forHoses]; repeat' split
  all_goals simp
@[simp] theorem settleTank_hoseCounters (k : TankId) (s : State) :
    (settleTank k s).hoseCounters = s.hoseCounters := by
  simp only [settleTank, forHoses]; repeat' split
  all_goals simp
@[simp] theorem settleTank_pending (k : TankId) (s : State) :
    (settleTank k s).pending = s.pending := by
  simp only [settleTank, forHoses]; repeat' split
  all_goals simp

/-! ### `settleTanks`: the tanks, and what the CUTOFF signal ends -/
@[simp] theorem settleTanks_started (named : Option TankId) (before : State) (s : State) :
    (settleTanks named before s).started = s.started := by
  simp only [settleTanks, forTanks]; repeat' split
  all_goals simp
@[simp] theorem settleTanks_cfg (named : Option TankId) (before : State) (s : State) :
    (settleTanks named before s).cfg = s.cfg := by
  simp only [settleTanks, forTanks]; repeat' split
  all_goals simp
@[simp] theorem settleTanks_tick (named : Option TankId) (before : State) (s : State) :
    (settleTanks named before s).tick = s.tick := by
  simp only [settleTanks, forTanks]; repeat' split
  all_goals simp
@[simp] theorem settleTanks_holdCounter (named : Option TankId) (before : State) (s : State) :
    (settleTanks named before s).holdCounter = s.holdCounter := by
  simp only [settleTanks, forTanks]; repeat' split
  all_goals simp
@[simp] theorem settleTanks_sigma (named : Option TankId) (before : State) (s : State) :
    (settleTanks named before s).sigma = s.sigma := by
  simp only [settleTanks, forTanks]; repeat' split
  all_goals simp
@[simp] theorem settleTanks_tableFullTick (named : Option TankId) (before : State) (s : State) :
    (settleTanks named before s).tableFullTick = s.tableFullTick := by
  simp only [settleTanks, forTanks]; repeat' split
  all_goals simp
@[simp] theorem settleTanks_holdExpiries (named : Option TankId) (before : State) (s : State) :
    (settleTanks named before s).holdExpiries = s.holdExpiries := by
  simp only [settleTanks, forTanks]; repeat' split
  all_goals simp
@[simp] theorem settleTanks_walker (named : Option TankId) (before : State) (s : State) :
    (settleTanks named before s).walker = s.walker := by
  simp only [settleTanks, forTanks]; repeat' split
  all_goals simp
@[simp] theorem settleTanks_hoseCounters (named : Option TankId) (before : State) (s : State) :
    (settleTanks named before s).hoseCounters = s.hoseCounters := by
  simp only [settleTanks, forTanks]; repeat' split
  all_goals simp
@[simp] theorem settleTanks_pending (named : Option TankId) (before : State) (s : State) :
    (settleTanks named before s).pending = s.pending := by
  simp only [settleTanks, forTanks]; repeat' split
  all_goals simp

end Sys2Proof.Machine
end

