-- ==== Sys2Proof/Laws/TagLink.lean ====
section
/-!
SUPPORT. What the operations on a tag link write (R49 to R60): the line alone for its settling, and what a byte, a
discard, an overrun and a lamp request leave.
-/

namespace Sys2Proof.Machine

/-! ### `settleLine`: the line alone -/

/-- R49: a line in HELD or OPEN takes the phase that the conditions call for. -/
theorem settleLine_rest (t : TagLink) (h : t.line = .held ∨ t.line = .opened) :
    settleLine t = { t with line := restingLine t } := by
  unfold settleLine
  rcases h with h | h <;> simp [h]

/-- R49: a line in SENDING or BREAK stays there. -/
theorem settleLine_busy (t : TagLink) (h : t.line = .sending ∨ t.line = .broken) : settleLine t = t := by
  unfold settleLine
  rcases h with h | h <;> simp [h]

@[simp] theorem settleLine_dataLow (t : TagLink) : (settleLine t).dataLow = t.dataLow := by
  unfold settleLine; split <;> rfl
@[simp] theorem settleLine_mode (t : TagLink) : (settleLine t).mode = t.mode := by
  unfold settleLine; split <;> rfl
@[simp] theorem settleLine_message (t : TagLink) : (settleLine t).message = t.message := by
  unfold settleLine; split <;> rfl
@[simp] theorem settleLine_leftover (t : TagLink) : (settleLine t).leftover = t.leftover := by
  unfold settleLine; split <;> rfl
@[simp] theorem settleLine_buffer (t : TagLink) : (settleLine t).buffer = t.buffer := by
  unfold settleLine; split <;> rfl
@[simp] theorem settleLine_tracker (t : TagLink) : (settleLine t).tracker = t.tracker := by
  unfold settleLine; split <;> rfl
@[simp] theorem settleLine_accepted (t : TagLink) : (settleLine t).accepted = t.accepted := by
  unfold settleLine; split <;> rfl
@[simp] theorem settleLine_hoursAdopted (t : TagLink) : (settleLine t).hoursAdopted = t.hoursAdopted := by
  unfold settleLine; split <;> rfl
@[simp] theorem settleLine_watchTimer (t : TagLink) : (settleLine t).watchTimer = t.watchTimer := by
  unfold settleLine; split <;> rfl
@[simp] theorem settleLine_gapTimer (t : TagLink) : (settleLine t).gapTimer = t.gapTimer := by
  unfold settleLine; split <;> rfl
@[simp] theorem settleLine_inFlight (t : TagLink) : (settleLine t).inFlight = t.inFlight := by
  unfold settleLine; split <;> rfl
@[simp] theorem settleLine_lampBits (t : TagLink) : (settleLine t).lampBits = t.lampBits := by
  unfold settleLine; split <;> rfl
@[simp] theorem settleLine_lampTimer (t : TagLink) : (settleLine t).lampTimer = t.lampTimer := by
  unfold settleLine; split <;> rfl
@[simp] theorem settleLine_pendingLamp (t : TagLink) : (settleLine t).pendingLamp = t.pendingLamp := by
  unfold settleLine; split <;> rfl
@[simp] theorem settleLine_lastLamp (t : TagLink) : (settleLine t).lastLamp = t.lastLamp := by
  unfold settleLine; split <;> rfl

/-! ### `pendLamp`: the line and the two lamp slots -/

@[simp] theorem pendLamp_pendingLamp (l : Lamp) (t : TagLink) : (pendLamp l t).pendingLamp = some l := by
  simp [pendLamp]
@[simp] theorem pendLamp_lastLamp (l : Lamp) (t : TagLink) : (pendLamp l t).lastLamp = l := by
  simp [pendLamp]
@[simp] theorem pendLamp_dataLow (l : Lamp) (t : TagLink) : (pendLamp l t).dataLow = t.dataLow := by
  simp [pendLamp]
@[simp] theorem pendLamp_mode (l : Lamp) (t : TagLink) : (pendLamp l t).mode = t.mode := by
  simp [pendLamp]
@[simp] theorem pendLamp_message (l : Lamp) (t : TagLink) : (pendLamp l t).message = t.message := by
  simp [pendLamp]
@[simp] theorem pendLamp_leftover (l : Lamp) (t : TagLink) : (pendLamp l t).leftover = t.leftover := by
  simp [pendLamp]
@[simp] theorem pendLamp_buffer (l : Lamp) (t : TagLink) : (pendLamp l t).buffer = t.buffer := by
  simp [pendLamp]
@[simp] theorem pendLamp_tracker (l : Lamp) (t : TagLink) : (pendLamp l t).tracker = t.tracker := by
  simp [pendLamp]
@[simp] theorem pendLamp_accepted (l : Lamp) (t : TagLink) : (pendLamp l t).accepted = t.accepted := by
  simp [pendLamp]
@[simp] theorem pendLamp_hoursAdopted (l : Lamp) (t : TagLink) : (pendLamp l t).hoursAdopted = t.hoursAdopted := by
  simp [pendLamp]
@[simp] theorem pendLamp_watchTimer (l : Lamp) (t : TagLink) : (pendLamp l t).watchTimer = t.watchTimer := by
  simp [pendLamp]
@[simp] theorem pendLamp_gapTimer (l : Lamp) (t : TagLink) : (pendLamp l t).gapTimer = t.gapTimer := by
  simp [pendLamp]
@[simp] theorem pendLamp_inFlight (l : Lamp) (t : TagLink) : (pendLamp l t).inFlight = t.inFlight := by
  simp [pendLamp]
@[simp] theorem pendLamp_lampBits (l : Lamp) (t : TagLink) : (pendLamp l t).lampBits = t.lampBits := by
  simp [pendLamp]
@[simp] theorem pendLamp_lampTimer (l : Lamp) (t : TagLink) : (pendLamp l t).lampTimer = t.lampTimer := by
  simp [pendLamp]

/-! ### Messages -/

/-- R183, R187: a byte's levels on a tag link spell it. -/
theorem tagData_onTagLink (b : Byte) (gap : Bool) : tagData (onTagLink b gap) = b :=
  levelsByte_dataLevels b

/-- R50, R187: a byte that a tag link carries without fault is good. -/
theorem goodByte_onTagLink (b : Byte) (gap : Bool) : goodByte (onTagLink b gap) = true := by
  have parity : goodByte (onTagLink b gap)
      = decide ((onesIn (tagData (onTagLink b gap))
          + (if decide (onesIn b % 2 = 0) then 1 else 0)) % 2 = 1) := rfl
  rw [parity, tagData_onTagLink]
  rcases Nat.mod_two_eq_zero_or_one (onesIn b) with h | h <;> simp [h, Nat.add_mod]

/-- R50, step 2: a gap discards the message in progress, and nothing where none is. -/
theorem gapExpired_spec (h : HoseId) (s : State) :
    ((s.tag h).gapTimer.isSome = true → gapExpired h s = discardMessage h s) ∧
    ((s.tag h).gapTimer = none → gapExpired h s = s) := by
  refine ⟨fun a => by simp [gapExpired, a], fun a => by simp [gapExpired, a]⟩

/-- R50: a byte that is none of a discarded message is taken, after the discard of a message that a gap before it has
cut short; one of a discarded message passes; a line on which no byte can come takes none. -/
theorem onTagByte_spec (h : HoseId) (x : TagByte) (act : TagOutcome → State → State) (s : State) :
    (receiving s h = false → onTagByte h x act s = s) ∧
    (receiving s h = true → ofDiscarded (s.tag h) x = true → onTagByte h x act s = s.modTag h passByte) ∧
    (receiving s h = true → ofDiscarded (s.tag h) x = false →
      let s1 := if x.gapBefore then gapExpired h s else s
      onTagByte h x act s = act (tagOutcome (s1.tag h).message x) s1) := by
  refine ⟨fun a => ?_, fun a b => ?_, fun a b => ?_⟩ <;> simp [onTagByte, a] <;> simp [b]

/-- R50: a message that has ended leaves nothing behind. -/
theorem endMessage_empty (t : TagLink) :
    (endMessage t).message = [] ∧ (endMessage t).gapTimer = none ∧ (endMessage t).leftover = .none ∧
      (endMessage t).dataLow = false := by
  simp [endMessage, dropMessage]

/-- R51: after an overrun the line is in HELD whatever the mode. -/
theorem overrun_holds (t : TagLink) (h : t.line = .held) :
    (settleLine { dropMessage t with dataLow := true }).line = .held := by
  simp [settleLine, dropMessage, h, restingLine]

/-- R49: the phase at rest is HELD or OPEN. -/
theorem restingLine_cases (t : TagLink) : restingLine t = .held ∨ restingLine t = .opened := by
  unfold restingLine; split
  · exact Or.inl rfl
  · exact Or.inr rfl

end Sys2Proof.Machine
end

