-- ==== Sys2Proof/Laws/Moves.lean ====
section
/-!
SUPPORT. What the moves of a hose write (R3, R4, R16, R48): the hose, its tag link and the console port after each.
-/

namespace Sys2Proof.Machine

/-- R172: what an event leaves in the console port depends on the console port and the tick alone. -/
theorem post_console (n : Nat) (d : EventDetail) (s t : State) (h : t.console = s.console)
    (ht : t.tick = s.tick) : (post n d t).console = (post n d s).console := by
  unfold post; rw [h, ht]; split <;> simp [State.modConsole, h, ht]

/-! ### `enterHose` -/

@[simp] theorem enterHose_hose_same (h : HoseId) (x : HoseState) (l : Option Lamp) (s : State) :
    (enterHose h x l s).hoses.get h = setHoseState x (s.hoses.get h) := by
  cases l <;> simp [enterHose, requestLampOpt, requestLamp, State.hose]

theorem enterHose_hose_ne (h k : HoseId) (x : HoseState) (l : Option Lamp) (s : State) (hk : k ≠ h) :
    (enterHose h x l s).hoses.get k = s.hoses.get k := by
  cases l <;> simp [enterHose, requestLampOpt, requestLamp, State.hose, Quad.get_set_ne _ _ _ _ hk]

/-- R58: the link with a lamp command requested, if one is. -/
def TagLink.asked (l : Option Lamp) (t : TagLink) : TagLink :=
  match l with
  | some x => pendLamp x t
  | none => t

@[simp] theorem enterHose_tag_same (h : HoseId) (x : HoseState) (l : Option Lamp) (s : State) :
    (enterHose h x l s).tags.get h =
      setMode (modeOf x (isManual (s.hoses.get h))) (TagLink.asked l (s.tags.get h)) := by
  cases l <;> simp [enterHose, requestLampOpt, requestLamp, State.hose, TagLink.asked]

theorem enterHose_tag_ne (h k : HoseId) (x : HoseState) (l : Option Lamp) (s : State) (hk : k ≠ h) :
    (enterHose h x l s).tags.get k = s.tags.get k := by
  cases l <;> simp [enterHose, requestLampOpt, requestLamp, State.hose, Quad.get_set_ne _ _ _ _ hk]

@[simp] theorem enterHose_console (h : HoseId) (x : HoseState) (l : Option Lamp) (s : State) :
    (enterHose h x l s).console = (post h.val (.hoseState x (s.hoses.get h).state) s).console := by
  cases l <;>
    simp only [enterHose, alertAfterMove_console, State.modTag_console, requestLampOpt, requestLamp] <;>
    exact post_console _ _ _ _ (by simp) (by simp)

/-- A mode never touches the lamp slots. -/
theorem setMode_lamps (m : TagMode) (t : TagLink) :
    (setMode m t).pendingLamp = t.pendingLamp ∧ (setMode m t).lastLamp = t.lastLamp := by
  have key : ∀ u : TagLink, u.pendingLamp = t.pendingLamp ∧ u.lastLamp = t.lastLamp →
      (settleLine u).pendingLamp = t.pendingLamp ∧ (settleLine u).lastLamp = t.lastLamp := by
    intro u hu; unfold settleLine; split <;> exact hu
  unfold setMode
  apply key
  split
  · exact ⟨rfl, rfl⟩
  · cases m <;> exact ⟨rfl, rfl⟩

@[simp] theorem setMode_pendingLamp (m : TagMode) (t : TagLink) :
    (setMode m t).pendingLamp = t.pendingLamp := (setMode_lamps m t).1

@[simp] theorem setMode_lastLamp (m : TagMode) (t : TagLink) :
    (setMode m t).lastLamp = t.lastLamp := (setMode_lamps m t).2

@[simp] theorem setMode_mode (m : TagMode) (t : TagLink) : (setMode m t).mode = m := by
  have key : ∀ u : TagLink, u.mode = m → (settleLine u).mode = m := by
    intro u hu; unfold settleLine; split <;> exact hu
  unfold setMode
  apply key
  split
  · assumption
  · cases m <;> rfl

/-! ### `toClosing` (R16) -/

/-- R16: the hose as its entry to CLOSING leaves it. -/
def Hose.closed (r : EndReason) (fault : Bool) (c : HoseCfg) (x : Hose) : Hose :=
  setHoseState .closing
    { x with
      dispense := x.dispense.map fun d => { d with endReason := some r }
      outOfService := x.outOfService || fault
      timers :=
        { x.timers with
          noFlow := none, duration := none, tagReturn := none, afterFlow := some (c.afterFlow * 100) } }

@[simp] theorem toClosing_hose_same (h : HoseId) (r : EndReason) (b : Bool) (s : State) :
    (toClosing h r b s).hoses.get h = Hose.closed r b (s.cfg.hoses.get h) (s.hoses.get h) := by
  simp [toClosing, Hose.closed, State.hoseCfg]

theorem toClosing_hose_ne (h k : HoseId) (r : EndReason) (b : Bool) (s : State) (hk : k ≠ h) :
    (toClosing h r b s).hoses.get k = s.hoses.get k := by
  simp [toClosing, enterHose_hose_ne _ _ _ _ _ hk, Quad.get_set_ne _ _ _ _ hk]

@[simp] theorem toClosing_tag_same (h : HoseId) (r : EndReason) (b : Bool) (s : State) :
    (toClosing h r b s).tags.get h =
      setMode .quiet (TagLink.asked (some .amber) (s.tags.get h)) := by
  simp [toClosing, modeOf, HoseState.entryLamp]

theorem toClosing_tag_ne (h k : HoseId) (r : EndReason) (b : Bool) (s : State) (hk : k ≠ h) :
    (toClosing h r b s).tags.get k = s.tags.get k := by
  simp [toClosing, enterHose_tag_ne _ _ _ _ _ hk]

@[simp] theorem toClosing_console (h : HoseId) (r : EndReason) (b : Bool) (s : State) :
    (toClosing h r b s).console =
      (post h.val (.hoseState .closing (s.hoses.get h).state) s).console := by
  simp only [toClosing, enterHose_console, State.modHose_hoses, Quad.get_set_same]
  exact post_console _ _ _ _ (by simp) (by simp)

end Sys2Proof.Machine
end

