-- ==== Sys2Proof/Laws/Endings.lean ====
section
/-!
SUPPORT. What end processing writes (R11, R17, R18): the hose that ends, and that the others keep theirs.
-/

namespace Sys2Proof.Machine

/-! ### The hose after `queueIssue` -/

/-- R18: the ISSUE is kept, and nothing of the hose but its pending set changes with it. -/
theorem queueIssue_hose_same (h : HoseId) (f : Frame) (s : State) :
    ∃ owed, (queueIssue h f s).hoses.get h =
      { s.hoses.get h with issue := some f, pendingIssue := owed } := by
  simp only [queueIssue, forPorts]
  repeat' split
  all_goals first
    | exact ⟨_, by simp [pushRoutine]; rfl⟩

theorem queueIssue_hose_ne (h k : HoseId) (f : Frame) (s : State) (hk : k ≠ h) :
    (queueIssue h f s).hoses.get k = s.hoses.get k := by
  simp only [queueIssue, forPorts]
  repeat' split
  all_goals simp [pushRoutine, Quad.get_set_ne _ _ _ _ hk]

/-! ### The hose after `endProcessing` -/

/-- R17: the hose without its dispense, its wait and its request, with the record of the dispense. -/
def Hose.accounted (record : DispenseRecord) (late : Nat) (f : Frame) (owed : PortSet) (x : Hose) :
    Hose :=
  { stopWait x with
    last := some record, requested := none, dispense := none, lateVolume := late
    leakReported := false, issue := some f, pendingIssue := owed }

/-- R17: the account writes the record of the dispense. -/
theorem account_hose_same (h : HoseId) (d : Dispense) (r : EndReason) (g v c : Nat) (l : Bool)
    (s : State) : (account h d r g v c l s).hoses.get h =
      { stopWait (s.hoses.get h) with
        last := some (buildRecord h d r g v (removeOwnHold h (creditDispense d v s)))
        requested := none, dispense := none, lateVolume := c, leakReported := false } := by
  simp [account, startLate, countDispense, removeOwnHold]

theorem account_hose_ne (h k : HoseId) (d : Dispense) (r : EndReason) (g v c : Nat) (l : Bool) (s : State)
    (hk : k ≠ h) : (account h d r g v c l s).hoses.get k = s.hoses.get k := by
  simp [account, startLate, countDispense, removeOwnHold, Quad.get_set_ne _ _ _ _ hk]

/-- R17: an end with an open dispense is its account and its ISSUE. -/
theorem endProcessing_eq (h : HoseId) (r : EndReason) (a b : Bool) (s : State) (d : Dispense)
    (hd : (s.hoses.get h).dispense = some d) :
    endProcessing h r a b s =
      queueIssue h
        (buildIssue h d (if a then 0 else (s.meters.get h).s)
          (account h d r (if a then 0 else (s.meters.get h).g) (if a then 0 else (s.meters.get h).s)
            (if a && b then (s.meters.get h).g else 0) b s))
        (account h d r (if a then 0 else (s.meters.get h).g) (if a then 0 else (s.meters.get h).s)
          (if a && b then (s.meters.get h).g else 0) b s) := by
  simp only [endProcessing, State.hose, State.meter, hd]

/-- R17: the hose after an end with an open dispense. -/
theorem endProcessing_hose_same (h : HoseId) (r : EndReason) (a b : Bool) (s : State) (d : Dispense)
    (hd : (s.hoses.get h).dispense = some d) :
    ∃ f owed, (endProcessing h r a b s).hoses.get h =
      Hose.accounted
        (buildRecord h d r (if a then 0 else (s.meters.get h).g) (if a then 0 else (s.meters.get h).s)
          (removeOwnHold h (creditDispense d (if a then 0 else (s.meters.get h).s) s)))
        (if a && b then (s.meters.get h).g else 0) f owed (s.hoses.get h) := by
  rw [endProcessing_eq _ _ _ _ _ d hd]
  obtain ⟨owed, e⟩ := queueIssue_hose_same h
    (buildIssue h d (if a then 0 else (s.meters.get h).s)
      (account h d r (if a then 0 else (s.meters.get h).g) (if a then 0 else (s.meters.get h).s)
        (if a && b then (s.meters.get h).g else 0) b s))
    (account h d r (if a then 0 else (s.meters.get h).g) (if a then 0 else (s.meters.get h).s)
      (if a && b then (s.meters.get h).g else 0) b s)
  exact ⟨_, owed, by rw [e, account_hose_same]; rfl⟩

theorem endProcessing_hose_ne (h k : HoseId) (r : EndReason) (a b : Bool) (s : State) (hk : k ≠ h) :
    (endProcessing h r a b s).hoses.get k = s.hoses.get k := by
  simp only [endProcessing]
  split
  · rfl
  · exact (queueIssue_hose_ne _ _ _ _ hk).trans (account_hose_ne _ _ _ _ _ _ _ _ _ hk)

/-! ### Reservations (R129) -/

/-- R129: an offer to one hose changes nothing of a hose but its reservations. -/
theorem offerOne_hose (p : PortId) (h k : HoseId) (s : State) :
    ∃ x, (offerOne p h s).hoses.get k = { s.hoses.get k with reserved := x } := by
  simp only [offerOne]
  split
  · by_cases hk : k = h
    · subst hk; exact ⟨_, by simp; rfl⟩
    · exact ⟨(s.hoses.get k).reserved, by simp [Quad.get_set_ne _ _ _ _ hk]⟩
  · exact ⟨(s.hoses.get k).reserved, rfl⟩

/-- R129: an offer changes nothing of a hose but its reservations. -/
theorem offerUrgent_hose (p : PortId) (k : HoseId) (s : State) :
    ∃ x, (offerUrgent p s).hoses.get k = { s.hoses.get k with reserved := x } := by
  obtain ⟨x0, e0⟩ := offerOne_hose p 0 k s
  obtain ⟨x1, e1⟩ := offerOne_hose p 1 k (offerOne p 0 s)
  obtain ⟨x2, e2⟩ := offerOne_hose p 2 k (offerOne p 1 (offerOne p 0 s))
  obtain ⟨x3, e3⟩ := offerOne_hose p 3 k (offerOne p 2 (offerOne p 1 (offerOne p 0 s)))
  exact ⟨x3, by simp only [offerUrgent, forHoses]; rw [e3, e2, e1, e0]⟩

theorem offerUrgentAll_hose (k : HoseId) (s : State) :
    ∃ x, (offerUrgentAll s).hoses.get k = { s.hoses.get k with reserved := x } := by
  obtain ⟨x, e⟩ := offerUrgent_hose .a k s
  obtain ⟨y, e2⟩ := offerUrgent_hose .b k (offerUrgent .a s)
  exact ⟨y, by simp only [offerUrgentAll, forPorts]; rw [e2, e]⟩

/-! ### Leaving ENDED and REFUSED (R19, R22) -/

/-- A hose whose nozzle is lifted does not leave. -/
theorem tryLeave_of_lifted (h : HoseId) (s : State) (hl : (s.hoses.get h).lifted = true) :
    tryLeave h s = s := by
  simp [tryLeave, State.hose, hl]

/-- Leaving changes the state, the outputs and the kept ISSUE of a hose, and nothing else of it. -/
theorem tryLeave_hose (h : HoseId) (s : State) :
    (tryLeave h s).hoses.get h = s.hoses.get h ∨
      ∃ new, (new = .idle ∨ new = .disabled) ∧
        (tryLeave h s).hoses.get h = setHoseState new { s.hoses.get h with issue := none } := by
  unfold tryLeave
  split
  · cases hx : (s.hose h).state
    case ended =>
      dsimp only
      split
      · exact Or.inr ⟨_, Or.inr rfl, by simp [forgetIssue]⟩
      · exact Or.inr ⟨_, Or.inl rfl, by simp [forgetIssue]⟩
    case refused => exact Or.inr ⟨_, Or.inl rfl, by simp [forgetIssue]⟩
    all_goals exact Or.inl rfl
  · exact Or.inl rfl

theorem tryLeave_hose_ne (h k : HoseId) (s : State) (hk : k ≠ h) :
    (tryLeave h s).hoses.get k = s.hoses.get k := by
  simp only [tryLeave]
  repeat' split
  all_goals first
    | rfl
    | simp [forgetIssue, enterHose_hose_ne _ _ _ _ _ hk, Quad.get_set_ne _ _ _ _ hk]

/-! ### What an end leaves of the other hoses (R11, R15, R101) -/

/-- Two hoses that differ in their reservations at most. -/
def Hose.alike (x y : Hose) : Prop := ∃ r, y = { x with reserved := r }

theorem Hose.alike_refl (x : Hose) : Hose.alike x x := ⟨x.reserved, rfl⟩

theorem Hose.alike_trans {x y z : Hose} (a : Hose.alike x y) (b : Hose.alike y z) : Hose.alike x z := by
  obtain ⟨r, rfl⟩ := a
  obtain ⟨q, rfl⟩ := b
  exact ⟨q, rfl⟩

theorem Hose.alike_state {x y : Hose} (a : Hose.alike x y) : y.state = x.state := by
  obtain ⟨r, rfl⟩ := a; rfl

theorem endFromHolding_hose_ne (h k : HoseId) (r : EndReason) (b : Bool) (s : State) (hk : k ≠ h) :
    Hose.alike (s.hoses.get k) ((endFromHolding h r b s).hoses.get k) := by
  simp only [endFromHolding]
  rw [tryLeave_hose_ne _ _ _ hk]
  obtain ⟨x, e⟩ := offerUrgentAll_hose k (endProcessing h r true true
    (enterHose h .ended HoseState.ended.entryLamp (s.modHose h fun x =>
      { x with
        dispense := x.dispense.map fun d => { d with endReason := some r }
        outOfService := x.outOfService || b })))
  refine ⟨x, e.trans ?_⟩
  rw [endProcessing_hose_ne _ _ _ _ _ _ hk, enterHose_hose_ne _ _ _ _ _ hk]
  simp [Quad.get_set_ne _ _ _ _ hk]

theorem endDispense_hose_ne (h k : HoseId) (r : EndReason) (b : Bool) (s : State) (hk : k ≠ h) :
    Hose.alike (s.hoses.get k) ((endDispense h r b s).hoses.get k) := by
  simp only [endDispense]
  cases (s.hose h).state
  case holding => exact endFromHolding_hose_ne h k r b s hk
  case running => exact ⟨_, by rw [toClosing_hose_ne _ _ _ _ _ hk]⟩
  case slowing => exact ⟨_, by rw [toClosing_hose_ne _ _ _ _ _ hk]⟩
  case paused => exact ⟨_, by rw [toClosing_hose_ne _ _ _ _ _ hk]⟩
  case closing =>
    dsimp only
    split
    · exact ⟨(s.hoses.get k).reserved, by simp [Quad.get_set_ne _ _ _ _ hk]⟩
    · exact Hose.alike_refl _
  all_goals exact Hose.alike_refl _

/-- The states that the CUTOFF signal does not reach (R101). -/
def HoseState.quiet (x : HoseState) : Bool :=
  match x with
  | .holding | .running | .slowing | .paused => false
  | .idle | .lifted | .checking | .closing | .ended | .refused | .disabled => true

theorem cutoffHose_hose_quiet (t : TankId) (h k : HoseId) (s : State)
    (hq : (s.hoses.get k).state.quiet = true) :
    Hose.alike (s.hoses.get k) ((cutoffHose t h s).hoses.get k) := by
  simp only [cutoffHose]
  split
  · by_cases hk : k = h
    · subst hk
      simp only [State.hose]
      cases hx : (s.hoses.get k).state <;> simp only [hx, HoseState.quiet, Bool.false_eq_true] at hq
      all_goals exact Hose.alike_refl _
    · cases (s.hose h).state
      all_goals first
        | exact Hose.alike_refl _
        | exact endDispense_hose_ne _ _ _ _ _ hk
  · exact Hose.alike_refl _

theorem settleTank_hose_quiet (t : TankId) (k : HoseId) (s : State)
    (hq : (s.hoses.get k).state.quiet = true) :
    Hose.alike (s.hoses.get k) ((settleTank t s).hoses.get k) := by
  simp only [settleTank]
  split
  · exact Hose.alike_refl _
  · split
    · have step : ∀ (h : HoseId) (u : State), Hose.alike (s.hoses.get k) (u.hoses.get k) →
          Hose.alike (s.hoses.get k) ((cutoffHose t h u).hoses.get k) := fun h u a =>
        Hose.alike_trans a (cutoffHose_hose_quiet t h k u (by rw [Hose.alike_state a]; exact hq))
      refine step 3 _ (step 2 _ (step 1 _ (step 0 _ ?_)))
      exact ⟨_, by simp; rfl⟩
    · exact ⟨(s.hoses.get k).reserved, by simp⟩

/-- R101: the settling of the stages changes nothing but reservations of a hose that neither issues nor waits to. -/
theorem settleTanks_hose_quiet (named : Option TankId) (before : State) (k : HoseId) (s : State)
    (hq : (s.hoses.get k).state.quiet = true) :
    Hose.alike (s.hoses.get k) ((settleTanks named before s).hoses.get k) := by
  have step : ∀ (t : TankId) (u : State), Hose.alike (s.hoses.get k) (u.hoses.get k) →
      Hose.alike (s.hoses.get k)
        ((if named ≠ some t ∧ stockInputs s t = stockInputs before t then u
          else settleTank t u).hoses.get k) := by
    intro t u a
    split
    · exact a
    · exact Hose.alike_trans a (settleTank_hose_quiet t k u (by rw [Hose.alike_state a]; exact hq))
  exact step 3 _ (step 2 _ (step 1 _ (step 0 _ (Hose.alike_refl _))))

end Sys2Proof.Machine
end

