-- ==== Sys2Proof/Laws/Settle.lean ====
section
/-!
SUPPORT. The settling of the tank stages that ends an event (R99): what it depends on, and that it does nothing where
no tank's stock has changed.
-/

namespace Sys2Proof.Machine

/-- R98, R99: the inputs of a tank's stock are read from the tanks, the hold list, the station number and the S of
the meter units. -/
theorem stockInputs_congr (s u : State) (k : TankId) (htank : u.tanks = s.tanks)
    (hhold : u.holds = s.holds) (hcfg : u.cfg = s.cfg)
    (hs : ∀ h, (u.meters.get h).s = (s.meters.get h).s) : stockInputs u k = stockInputs s k := by
  have ho : u.ownNumber = s.ownNumber := by simp only [State.ownNumber, hcfg]
  simp only [stockInputs, heldInputs, State.tank, State.meter, htank, hhold, hs, ho]

/-- R99: the inputs of a tank's stock are the same exactly when its account and its hold entries, with the S of their
own hoses, are. -/
theorem stockInputs_eq_iff (s u : State) (k : TankId) :
    stockInputs u k = stockInputs s k ↔
      (u.tank k).opening = (s.tank k).opening ∧
        (u.tank k).openingPending = (s.tank k).openingPending ∧
        (u.tank k).issueMap = (s.tank k).issueMap ∧ (u.tank k).deliveryMap = (s.tank k).deliveryMap ∧
        (u.tank k).gauge = (s.tank k).gauge ∧ heldInputs u k = heldInputs s k := by
  simp only [stockInputs, StockInputs.mk.injEq]

/-- R99: no tank whose stock has changed, none named, no change. -/
theorem settleTanks_eq_self (s u : State) (h : ∀ k, stockInputs u k = stockInputs s k) :
    settleTanks none s u = u := by
  simp [settleTanks, forTanks, h]

/-- R99: an event that leaves the tanks, the hold list, the store and every S leaves the stages. -/
theorem settleTanks_of_kept (s u : State) (htank : u.tanks = s.tanks) (hhold : u.holds = s.holds)
    (hcfg : u.cfg = s.cfg) (hs : ∀ h, (u.meters.get h).s = (s.meters.get h).s) :
    settleTanks none s u = u :=
  settleTanks_eq_self s u fun k => stockInputs_congr s u k htank hhold hcfg hs

/-- R99: one tank that is named, or whose stock has changed, settles alone. -/
theorem settleTanks_of_one (named : Option TankId) (s u : State) (k : TankId)
    (hk : named = some k ∨ stockInputs u k ≠ stockInputs s k)
    (h : ∀ j, j ≠ k → named ≠ some j ∧ stockInputs u j = stockInputs s j) :
    settleTanks named s u = settleTank k u := by
  have hk' : ¬(named ≠ some k ∧ stockInputs u k = stockInputs s k) := fun c =>
    hk.elim (fun e => c.1 e) (fun e => e c.2)
  match k with
  | 0 =>
    simp only [settleTanks, forTanks, if_pos (h 1 (by decide)), if_pos (h 2 (by decide)),
      if_pos (h 3 (by decide)), if_neg hk']
  | 1 =>
    simp only [settleTanks, forTanks, if_pos (h 0 (by decide)), if_pos (h 2 (by decide)),
      if_pos (h 3 (by decide)), if_neg hk']
  | 2 =>
    simp only [settleTanks, forTanks, if_pos (h 0 (by decide)), if_pos (h 1 (by decide)),
      if_pos (h 3 (by decide)), if_neg hk']
  | 3 =>
    simp only [settleTanks, forTanks, if_pos (h 0 (by decide)), if_pos (h 1 (by decide)),
      if_pos (h 2 (by decide)), if_neg hk']

/-- R99: of the state before the event only the inputs of the tanks' stock are read. -/
theorem settleTanks_before (named : Option TankId) (s s' u : State)
    (h : ∀ k, stockInputs s k = stockInputs s' k) : settleTanks named s u = settleTanks named s' u := by
  simp only [settleTanks, h]

end Sys2Proof.Machine
end

