-- ==== Sys2Proof/Laws/Tables.lean ====
section
/-!
SUPPORT. The laws of the tables: finding in the vehicle table and in the hold list after a change (R63, R116), and
component maps (R64).
-/

namespace Sys2Proof.Machine

/-! ### The vehicle table (R63) -/

theorem retouch_vehicle (t : Nat) (r x : VehicleRecord) (h : x.vehicle = r.vehicle) :
    (retouch t r x).vehicle = r.vehicle := by
  unfold retouch; split
  · rfl
  · exact h

/-- A change that keeps the number is found at its vehicle. -/
theorem findVehicle_editVehicle_same (v : Nat) (f : VehicleRecord → VehicleRecord) (s : State)
    (hf : ∀ r, (f r).vehicle = r.vehicle) :
    findVehicle v (editVehicle v f s) = (findVehicle v s).map fun r => retouch s.tick r (f r) := by
  simp only [findVehicle, editVehicle]
  induction s.vehicles with
  | nil => rfl
  | cons x t ih =>
    by_cases hx : x.vehicle = v
    · subst hx
      simp [retouch_vehicle _ _ _ (hf x)]
    · simp [hx, ih]

/-- The other vehicles are as they were. -/
theorem findVehicle_editVehicle_ne (v w : Nat) (f : VehicleRecord → VehicleRecord) (s : State)
    (hf : ∀ r, (f r).vehicle = r.vehicle) (hw : w ≠ v) :
    findVehicle w (editVehicle v f s) = findVehicle w s := by
  simp only [findVehicle, editVehicle]
  induction s.vehicles with
  | nil => rfl
  | cons x t ih =>
    by_cases hx : x.vehicle = v
    · have : ¬x.vehicle = w := fun h => hw (by rw [← h, hx])
      have h2 : ¬v = w := fun h => hw h.symm
      simp [hx, retouch_vehicle _ _ _ (hf x), ih, h2]
    · simp only [List.map_cons, hx, if_false, List.find?_cons, ih]

/-- A change that changes no record of the vehicle changes nothing. -/
theorem editVehicle_eq_self (v : Nat) (f : VehicleRecord → VehicleRecord) (s : State)
    (hf : ∀ r ∈ s.vehicles, r.vehicle = v → f r = r) : editVehicle v f s = s := by
  have : (s.vehicles.map fun r => if r.vehicle = v then retouch s.tick r (f r) else r) = s.vehicles := by
    refine (List.map_congr_left fun r hr => ?_).trans (List.map_id s.vehicles)
    by_cases h : r.vehicle = v
    · simp [h, hf r hr h, retouch]
    · simp [h]
  simp only [editVehicle, this]

theorem findVehicle_number {v : Nat} {s : State} {r : VehicleRecord} (h : findVehicle v s = some r) :
    r.vehicle = v := by
  simpa using List.find?_some h

/-- A record placed where none stands is found. -/
theorem find_insertRecord_same (r : VehicleRecord) (l : List VehicleRecord)
    (h : l.find? (fun x => decide (x.vehicle = r.vehicle)) = none) :
    (insertRecord r l).find? (fun x => decide (x.vehicle = r.vehicle)) = some r := by
  induction l with
  | nil => simp [insertRecord]
  | cons x t ih =>
    rw [List.find?_cons] at h
    by_cases hx : x.vehicle = r.vehicle
    · simp [hx] at h
    · simp only [hx, decide_false] at h
      unfold insertRecord; split
      · simp
      · simp [hx, ih h]

theorem find_insertRecord_ne (r : VehicleRecord) (l : List VehicleRecord) (w : Nat)
    (h : w ≠ r.vehicle) :
    (insertRecord r l).find? (fun x => decide (x.vehicle = w)) =
      l.find? fun x => decide (x.vehicle = w) := by
  have hw : ¬r.vehicle = w := fun e => h e.symm
  induction l with
  | nil => simp [insertRecord, hw]
  | cons x t ih =>
    unfold insertRecord; split
    · simp [hw]
    · simp only [List.find?_cons, ih]

/-- A record created for a vehicle without one is found. -/
theorem findVehicle_createVehicle_same (v : Nat) (c : Option ClassId) (o : Origin) (s : State)
    (h : findVehicle v s = none) :
    findVehicle v (createVehicle v c o s) = some (newRecord v c o s.tick) :=
  find_insertRecord_same (newRecord v c o s.tick) s.vehicles h

theorem findVehicle_createVehicle_ne (v w : Nat) (c : Option ClassId) (o : Origin) (s : State)
    (h : w ≠ v) : findVehicle w (createVehicle v c o s) = findVehicle w s :=
  find_insertRecord_ne (newRecord v c o s.tick) s.vehicles w h

/-- R70: a record removed is not found. -/
theorem findVehicle_removeVehicle_same (v : Nat) (s : State) :
    findVehicle v (removeVehicle v s) = none := by
  simp only [findVehicle, removeVehicle, List.find?_eq_none, List.mem_filter]
  rintro r ⟨_, h⟩; simpa using h

theorem findVehicle_removeVehicle_ne (v w : Nat) (s : State) (h : w ≠ v) :
    findVehicle w (removeVehicle v s) = findVehicle w s := by
  simp only [findVehicle, removeVehicle]
  induction s.vehicles with
  | nil => rfl
  | cons x t ih =>
    by_cases hx : x.vehicle = v
    · have : ¬v = w := fun e => h e.symm
      rw [List.filter_cons_of_neg (by simp [hx]), ih]
      simp [hx, this]
    · simp only [List.filter_cons, ne_eq, hx, not_false_eq_true, decide_true, if_true,
        List.find?_cons, ih]

/-! ### The hold list (R116) -/

/-- The entry written for a pair is found there. -/
theorem findHold_putHold_same (e : HoldEntry) (l : List HoldEntry) :
    findHold e.station e.hose (putHold e l) = some e := by
  induction l with
  | nil => simp [putHold, findHold]
  | cons x t ih =>
    simp only [putHold]
    split
    · simp [findHold]
    · rename_i h
      split
      · simp [findHold]
      · simp only [findHold] at ih
        simp only [findHold, List.find?_cons, h, decide_false, ih]

/-- The entries of the other pairs are as they were. -/
theorem findHold_putHold_ne (e : HoldEntry) (l : List HoldEntry) (k : Nat) (j : HoseId)
    (h : ¬(k = e.station ∧ j = e.hose)) : findHold k j (putHold e l) = findHold k j l := by
  have he : ¬(e.station = k ∧ e.hose = j) := fun ⟨a, b⟩ => h ⟨a.symm, b.symm⟩
  induction l with
  | nil => simp [putHold, findHold, he]
  | cons x t ih =>
    simp only [putHold]
    split
    · rename_i hx
      have : ¬(x.station = k ∧ x.hose = j) := by rw [hx.1, hx.2]; exact he
      simp [findHold, he, this]
    · split
      · simp [findHold, he]
      · simp only [findHold, List.find?_cons]
        simp only [findHold] at ih
        rw [ih]

/-- R117: an entry taken out is not found. -/
theorem findHold_dropHold_same (k : Nat) (j : HoseId) (l : List HoldEntry) :
    findHold k j (dropHold k j l) = none := by
  simp only [findHold, dropHold, List.find?_eq_none, List.mem_filter]
  rintro e ⟨_, h⟩
  simp only [decide_eq_true_eq] at h ⊢
  exact h

theorem findHold_dropHold_ne (i k : Nat) (g j : HoseId) (l : List HoldEntry)
    (h : ¬(i = k ∧ g = j)) : findHold i g (dropHold k j l) = findHold i g l := by
  simp only [findHold, dropHold]
  induction l with
  | nil => rfl
  | cons x t ih =>
    by_cases hx : x.station = k ∧ x.hose = j
    · have : ¬(x.station = i ∧ x.hose = g) := by
        rintro ⟨a, b⟩; exact h ⟨a.symm.trans hx.1, b.symm.trans hx.2⟩
      rw [List.filter_cons_of_neg (by simp [hx]), ih]
      simp only [List.find?_cons, this, decide_false]
    · simp only [List.filter_cons, hx, not_false_eq_true, decide_true, if_true, List.find?_cons, ih]

theorem findHold_pair {k : Nat} {j : HoseId} {l : List HoldEntry} {e : HoldEntry}
    (h : findHold k j l = some e) : e.station = k ∧ e.hose = j := by
  simpa using List.find?_some h

/-- R116, R118: a change of the entries that keeps their pairs is found entry by entry. -/
theorem findHold_map (f : HoldEntry → HoldEntry)
    (hf : ∀ e, (f e).station = e.station ∧ (f e).hose = e.hose) (k : Nat) (j : HoseId)
    (l : List HoldEntry) : findHold k j (l.map f) = (findHold k j l).map f := by
  simp only [findHold]
  induction l with
  | nil => rfl
  | cons x t ih =>
    simp only [List.map_cons, List.find?_cons, (hf x).1, (hf x).2, ih]
    split <;> rfl

/-! ### Component maps (R64) -/

namespace CompMap

/-- A map in form with a first station: every station is larger. -/
theorem wf_cons {k v : Nat} {t : CompMap} (h : CompMap.wf ((k, v) :: t) = true) :
    v ≠ 0 ∧ CompMap.wf t = true ∧ ∀ j, j ≤ k → get t j = 0 := by
  induction t generalizing k v with
  | nil => exact ⟨by simpa [CompMap.wf] using h, rfl, fun _ _ => rfl⟩
  | cons x r ih =>
    obtain ⟨j, w⟩ := x
    simp only [CompMap.wf, bne_iff_ne, Bool.and_eq_true, decide_eq_true_eq] at h
    obtain ⟨⟨hv, hk⟩, ht⟩ := h
    refine ⟨hv, ht, fun i hi => ?_⟩
    have := (ih ht).2.2 i (by omega)
    have hne : ¬j = i := by omega
    simp [get, hne, this]

/-- R64: the component written is read. -/
theorem get_put_same (m : CompMap) (k v : Nat) (h : m.wf = true) : get (put m k v) k = v := by
  induction m with
  | nil => by_cases hv : v = 0 <;> simp [put, get, hv]
  | cons x t ih =>
    obtain ⟨j, w⟩ := x
    have hc := wf_cons h
    simp only [put]
    split
    · rename_i hj
      have hne : ¬j = k := by omega
      simp [get, hne, ih hc.2.1]
    · split
      · rename_i hj
        subst hj
        split
        · rename_i hv; simp [hv, hc.2.2 j (Nat.le_refl j)]
        · simp [get]
      · rename_i h1 h2
        split
        · rename_i hv
          simp only [get, h2, if_false, hv]
          exact hc.2.2 k (by omega)
        · simp [get]

/-- R64: the other components are as they were. -/
theorem get_put_ne (m : CompMap) (k v j : Nat) (hj : j ≠ k) : get (put m k v) j = get m j := by
  have hk : ¬k = j := fun e => hj e.symm
  induction m with
  | nil => by_cases hv : v = 0 <;> simp [put, get, hv, hk]
  | cons x t ih =>
    obtain ⟨i, w⟩ := x
    simp only [put]
    split
    · simp only [get, ih]
    · split
      · rename_i _ hi
        subst hi
        split <;> simp [get, hk]
      · split <;> simp [get, hk]

/-- A write keeps the form. -/
theorem put_wf (m : CompMap) (k v : Nat) (h : m.wf = true) : (put m k v).wf = true := by
  induction m with
  | nil => by_cases hv : v = 0 <;> simp [put, CompMap.wf, hv]
  | cons x t ih =>
    obtain ⟨j, w⟩ := x
    have hc := wf_cons h
    simp only [put]
    split
    · rename_i hj
      have hp := ih hc.2.1
      cases t with
      | nil =>
        by_cases hv : v = 0 <;> simp [put, CompMap.wf, hv, hc.1, hj]
      | cons y r =>
        obtain ⟨i, u⟩ := y
        simp only [CompMap.wf, Bool.and_eq_true, decide_eq_true_eq] at h
        simp only [put] at hp ⊢
        split at hp <;> rename_i h1
        · simp only [h1, if_true, CompMap.wf, Bool.and_eq_true, decide_eq_true_eq] at hp ⊢
          exact ⟨⟨h.1.1, h.1.2⟩, hp⟩
        · simp only [h1, if_false]
          split at hp <;> rename_i h2
          · simp only [h2, if_true]
            split at hp <;> rename_i h3
            · simp only [h3, if_true]
              cases r with
              | nil => simpa [CompMap.wf] using hc.1
              | cons z q =>
                obtain ⟨a, b⟩ := z
                simp only [CompMap.wf, Bool.and_eq_true, decide_eq_true_eq] at h ⊢
                exact ⟨⟨h.1.1, by omega⟩, h.2.2⟩
            · simp only [h3, if_false, CompMap.wf, Bool.and_eq_true, decide_eq_true_eq] at hp ⊢
              exact ⟨⟨h.1.1, hj⟩, hp⟩
          · simp only [h2, if_false]
            split at hp <;> rename_i h3
            · simp only [h3, if_true, CompMap.wf, Bool.and_eq_true, decide_eq_true_eq]
              exact h
            · simp only [h3, if_false, CompMap.wf, Bool.and_eq_true, decide_eq_true_eq] at hp ⊢
              exact ⟨⟨h.1.1, hj⟩, hp⟩
    · split
      · rename_i _ hj
        subst hj
        split
        · exact hc.2.1
        · rename_i hv
          cases t with
          | nil => simpa [CompMap.wf] using hv
          | cons y r =>
            obtain ⟨i, u⟩ := y
            simp only [CompMap.wf, Bool.and_eq_true, decide_eq_true_eq, bne_iff_ne] at h ⊢
            exact ⟨⟨hv, h.1.2⟩, h.2⟩
      · split
        · exact h
        · rename_i h1 h2 hv
          simp only [CompMap.wf, Bool.and_eq_true, decide_eq_true_eq, bne_iff_ne]
          exact ⟨⟨hv, by omega⟩, h⟩

end CompMap

end Sys2Proof.Machine
end

