-- ==== Sys2Proof/Laws/Yard.lean ====
section
/-!
SUPPORT. What the shared operations of the yard ports, and those of the vehicle table that a notice or a tag reading
calls, leave as it was: for each, every field of the state that it does not write.
-/

namespace Sys2Proof.Machine

/-! ### `placeCopy`: the other port -/
@[simp] theorem placeCopy_started (q : PortId) (f : Frame) (s : State) :
    (placeCopy q f s).started = s.started := by
  simp only [placeCopy, State.modPortCounters]; repeat' split
  all_goals simp
@[simp] theorem placeCopy_cfg (q : PortId) (f : Frame) (s : State) :
    (placeCopy q f s).cfg = s.cfg := by
  simp only [placeCopy, State.modPortCounters]; repeat' split
  all_goals simp
@[simp] theorem placeCopy_tick (q : PortId) (f : Frame) (s : State) :
    (placeCopy q f s).tick = s.tick := by
  simp only [placeCopy, State.modPortCounters]; repeat' split
  all_goals simp
@[simp] theorem placeCopy_hoses (q : PortId) (f : Frame) (s : State) :
    (placeCopy q f s).hoses = s.hoses := by
  simp only [placeCopy, State.modPortCounters]; repeat' split
  all_goals simp
@[simp] theorem placeCopy_holdCounter (q : PortId) (f : Frame) (s : State) :
    (placeCopy q f s).holdCounter = s.holdCounter := by
  simp only [placeCopy, State.modPortCounters]; repeat' split
  all_goals simp
@[simp] theorem placeCopy_meters (q : PortId) (f : Frame) (s : State) :
    (placeCopy q f s).meters = s.meters := by
  simp only [placeCopy, State.modPortCounters]; repeat' split
  all_goals simp
@[simp] theorem placeCopy_tags (q : PortId) (f : Frame) (s : State) :
    (placeCopy q f s).tags = s.tags := by
  simp only [placeCopy, State.modPortCounters]; repeat' split
  all_goals simp
@[simp] theorem placeCopy_vehicles (q : PortId) (f : Frame) (s : State) :
    (placeCopy q f s).vehicles = s.vehicles := by
  simp only [placeCopy, State.modPortCounters]; repeat' split
  all_goals simp
@[simp] theorem placeCopy_sigma (q : PortId) (f : Frame) (s : State) :
    (placeCopy q f s).sigma = s.sigma := by
  simp only [placeCopy, State.modPortCounters]; repeat' split
  all_goals simp
@[simp] theorem placeCopy_tableFullTick (q : PortId) (f : Frame) (s : State) :
    (placeCopy q f s).tableFullTick = s.tableFullTick := by
  simp only [placeCopy, State.modPortCounters]; repeat' split
  all_goals simp
@[simp] theorem placeCopy_tanks (q : PortId) (f : Frame) (s : State) :
    (placeCopy q f s).tanks = s.tanks := by
  simp only [placeCopy, State.modPortCounters]; repeat' split
  all_goals simp
@[simp] theorem placeCopy_holds (q : PortId) (f : Frame) (s : State) :
    (placeCopy q f s).holds = s.holds := by
  simp only [placeCopy, State.modPortCounters]; repeat' split
  all_goals simp
@[simp] theorem placeCopy_holdExpiries (q : PortId) (f : Frame) (s : State) :
    (placeCopy q f s).holdExpiries = s.holdExpiries := by
  simp only [placeCopy, State.modPortCounters]; repeat' split
  all_goals simp
@[simp] theorem placeCopy_walker (q : PortId) (f : Frame) (s : State) :
    (placeCopy q f s).walker = s.walker := by
  simp only [placeCopy, State.modPortCounters]; repeat' split
  all_goals simp
@[simp] theorem placeCopy_console (q : PortId) (f : Frame) (s : State) :
    (placeCopy q f s).console = s.console := by
  simp only [placeCopy, State.modPortCounters]; repeat' split
  all_goals simp
@[simp] theorem placeCopy_classCounters (q : PortId) (f : Frame) (s : State) :
    (placeCopy q f s).classCounters = s.classCounters := by
  simp only [placeCopy, State.modPortCounters]; repeat' split
  all_goals simp
@[simp] theorem placeCopy_hoseCounters (q : PortId) (f : Frame) (s : State) :
    (placeCopy q f s).hoseCounters = s.hoseCounters := by
  simp only [placeCopy, State.modPortCounters]; repeat' split
  all_goals simp
@[simp] theorem placeCopy_alert (q : PortId) (f : Frame) (s : State) :
    (placeCopy q f s).alert = s.alert := by
  simp only [placeCopy, State.modPortCounters]; repeat' split
  all_goals simp
@[simp] theorem placeCopy_pending (q : PortId) (f : Frame) (s : State) :
    (placeCopy q f s).pending = s.pending := by
  simp only [placeCopy, State.modPortCounters]; repeat' split
  all_goals simp

/-! ### `offerRelay`: the other port -/
@[simp] theorem offerRelay_started (p : PortId) (f : Frame) (s : State) :
    (offerRelay p f s).started = s.started := by
  simp only [offerRelay, State.modPortCounters]; repeat' split
  all_goals simp
@[simp] theorem offerRelay_cfg (p : PortId) (f : Frame) (s : State) :
    (offerRelay p f s).cfg = s.cfg := by
  simp only [offerRelay, State.modPortCounters]; repeat' split
  all_goals simp
@[simp] theorem offerRelay_tick (p : PortId) (f : Frame) (s : State) :
    (offerRelay p f s).tick = s.tick := by
  simp only [offerRelay, State.modPortCounters]; repeat' split
  all_goals simp
@[simp] theorem offerRelay_hoses (p : PortId) (f : Frame) (s : State) :
    (offerRelay p f s).hoses = s.hoses := by
  simp only [offerRelay, State.modPortCounters]; repeat' split
  all_goals simp
@[simp] theorem offerRelay_holdCounter (p : PortId) (f : Frame) (s : State) :
    (offerRelay p f s).holdCounter = s.holdCounter := by
  simp only [offerRelay, State.modPortCounters]; repeat' split
  all_goals simp
@[simp] theorem offerRelay_meters (p : PortId) (f : Frame) (s : State) :
    (offerRelay p f s).meters = s.meters := by
  simp only [offerRelay, State.modPortCounters]; repeat' split
  all_goals simp
@[simp] theorem offerRelay_tags (p : PortId) (f : Frame) (s : State) :
    (offerRelay p f s).tags = s.tags := by
  simp only [offerRelay, State.modPortCounters]; repeat' split
  all_goals simp
@[simp] theorem offerRelay_vehicles (p : PortId) (f : Frame) (s : State) :
    (offerRelay p f s).vehicles = s.vehicles := by
  simp only [offerRelay, State.modPortCounters]; repeat' split
  all_goals simp
@[simp] theorem offerRelay_sigma (p : PortId) (f : Frame) (s : State) :
    (offerRelay p f s).sigma = s.sigma := by
  simp only [offerRelay, State.modPortCounters]; repeat' split
  all_goals simp
@[simp] theorem offerRelay_tableFullTick (p : PortId) (f : Frame) (s : State) :
    (offerRelay p f s).tableFullTick = s.tableFullTick := by
  simp only [offerRelay, State.modPortCounters]; repeat' split
  all_goals simp
@[simp] theorem offerRelay_tanks (p : PortId) (f : Frame) (s : State) :
    (offerRelay p f s).tanks = s.tanks := by
  simp only [offerRelay, State.modPortCounters]; repeat' split
  all_goals simp
@[simp] theorem offerRelay_holds (p : PortId) (f : Frame) (s : State) :
    (offerRelay p f s).holds = s.holds := by
  simp only [offerRelay, State.modPortCounters]; repeat' split
  all_goals simp
@[simp] theorem offerRelay_holdExpiries (p : PortId) (f : Frame) (s : State) :
    (offerRelay p f s).holdExpiries = s.holdExpiries := by
  simp only [offerRelay, State.modPortCounters]; repeat' split
  all_goals simp
@[simp] theorem offerRelay_walker (p : PortId) (f : Frame) (s : State) :
    (offerRelay p f s).walker = s.walker := by
  simp only [offerRelay, State.modPortCounters]; repeat' split
  all_goals simp
@[simp] theorem offerRelay_console (p : PortId) (f : Frame) (s : State) :
    (offerRelay p f s).console = s.console := by
  simp only [offerRelay, State.modPortCounters]; repeat' split
  all_goals simp
@[simp] theorem offerRelay_classCounters (p : PortId) (f : Frame) (s : State) :
    (offerRelay p f s).classCounters = s.classCounters := by
  simp only [offerRelay, State.modPortCounters]; repeat' split
  all_goals simp
@[simp] theorem offerRelay_hoseCounters (p : PortId) (f : Frame) (s : State) :
    (offerRelay p f s).hoseCounters = s.hoseCounters := by
  simp only [offerRelay, State.modPortCounters]; repeat' split
  all_goals simp
@[simp] theorem offerRelay_alert (p : PortId) (f : Frame) (s : State) :
    (offerRelay p f s).alert = s.alert := by
  simp only [offerRelay, State.modPortCounters]; repeat' split
  all_goals simp
@[simp] theorem offerRelay_pending (p : PortId) (f : Frame) (s : State) :
    (offerRelay p f s).pending = s.pending := by
  simp only [offerRelay, State.modPortCounters]; repeat' split
  all_goals simp

/-! ### `queueRollcall`: the ports alone -/
@[simp] theorem queueRollcall_started (s : State) :
    (queueRollcall s).started = s.started := by
  simp only [queueRollcall, forPorts]; repeat' split
  all_goals simp
@[simp] theorem queueRollcall_cfg (s : State) :
    (queueRollcall s).cfg = s.cfg := by
  simp only [queueRollcall, forPorts]; repeat' split
  all_goals simp
@[simp] theorem queueRollcall_tick (s : State) :
    (queueRollcall s).tick = s.tick := by
  simp only [queueRollcall, forPorts]; repeat' split
  all_goals simp
@[simp] theorem queueRollcall_hoses (s : State) :
    (queueRollcall s).hoses = s.hoses := by
  simp only [queueRollcall, forPorts]; repeat' split
  all_goals simp
@[simp] theorem queueRollcall_holdCounter (s : State) :
    (queueRollcall s).holdCounter = s.holdCounter := by
  simp only [queueRollcall, forPorts]; repeat' split
  all_goals simp
@[simp] theorem queueRollcall_meters (s : State) :
    (queueRollcall s).meters = s.meters := by
  simp only [queueRollcall, forPorts]; repeat' split
  all_goals simp
@[simp] theorem queueRollcall_tags (s : State) :
    (queueRollcall s).tags = s.tags := by
  simp only [queueRollcall, forPorts]; repeat' split
  all_goals simp
@[simp] theorem queueRollcall_vehicles (s : State) :
    (queueRollcall s).vehicles = s.vehicles := by
  simp only [queueRollcall, forPorts]; repeat' split
  all_goals simp
@[simp] theorem queueRollcall_sigma (s : State) :
    (queueRollcall s).sigma = s.sigma := by
  simp only [queueRollcall, forPorts]; repeat' split
  all_goals simp
@[simp] theorem queueRollcall_tableFullTick (s : State) :
    (queueRollcall s).tableFullTick = s.tableFullTick := by
  simp only [queueRollcall, forPorts]; repeat' split
  all_goals simp
@[simp] theorem queueRollcall_tanks (s : State) :
    (queueRollcall s).tanks = s.tanks := by
  simp only [queueRollcall, forPorts]; repeat' split
  all_goals simp
@[simp] theorem queueRollcall_holds (s : State) :
    (queueRollcall s).holds = s.holds := by
  simp only [queueRollcall, forPorts]; repeat' split
  all_goals simp
@[simp] theorem queueRollcall_holdExpiries (s : State) :
    (queueRollcall s).holdExpiries = s.holdExpiries := by
  simp only [queueRollcall, forPorts]; repeat' split
  all_goals simp
@[simp] theorem queueRollcall_walker (s : State) :
    (queueRollcall s).walker = s.walker := by
  simp only [queueRollcall, forPorts]; repeat' split
  all_goals simp
@[simp] theorem queueRollcall_console (s : State) :
    (queueRollcall s).console = s.console := by
  simp only [queueRollcall, forPorts]; repeat' split
  all_goals simp
@[simp] theorem queueRollcall_classCounters (s : State) :
    (queueRollcall s).classCounters = s.classCounters := by
  simp only [queueRollcall, forPorts]; repeat' split
  all_goals simp
@[simp] theorem queueRollcall_hoseCounters (s : State) :
    (queueRollcall s).hoseCounters = s.hoseCounters := by
  simp only [queueRollcall, forPorts]; repeat' split
  all_goals simp
@[simp] theorem queueRollcall_alert (s : State) :
    (queueRollcall s).alert = s.alert := by
  simp only [queueRollcall, forPorts]; repeat' split
  all_goals simp
@[simp] theorem queueRollcall_pending (s : State) :
    (queueRollcall s).pending = s.pending := by
  simp only [queueRollcall, forPorts]; repeat' split
  all_goals simp

/-! ### `startFastPass`: the walker alone -/
@[simp] theorem startFastPass_started (s : State) :
    (startFastPass s).started = s.started := rfl
@[simp] theorem startFastPass_cfg (s : State) :
    (startFastPass s).cfg = s.cfg := rfl
@[simp] theorem startFastPass_tick (s : State) :
    (startFastPass s).tick = s.tick := rfl
@[simp] theorem startFastPass_hoses (s : State) :
    (startFastPass s).hoses = s.hoses := rfl
@[simp] theorem startFastPass_holdCounter (s : State) :
    (startFastPass s).holdCounter = s.holdCounter := rfl
@[simp] theorem startFastPass_meters (s : State) :
    (startFastPass s).meters = s.meters := rfl
@[simp] theorem startFastPass_tags (s : State) :
    (startFastPass s).tags = s.tags := rfl
@[simp] theorem startFastPass_vehicles (s : State) :
    (startFastPass s).vehicles = s.vehicles := rfl
@[simp] theorem startFastPass_sigma (s : State) :
    (startFastPass s).sigma = s.sigma := rfl
@[simp] theorem startFastPass_tableFullTick (s : State) :
    (startFastPass s).tableFullTick = s.tableFullTick := rfl
@[simp] theorem startFastPass_tanks (s : State) :
    (startFastPass s).tanks = s.tanks := rfl
@[simp] theorem startFastPass_holds (s : State) :
    (startFastPass s).holds = s.holds := rfl
@[simp] theorem startFastPass_holdExpiries (s : State) :
    (startFastPass s).holdExpiries = s.holdExpiries := rfl
@[simp] theorem startFastPass_portA (s : State) :
    (startFastPass s).portA = s.portA := rfl
@[simp] theorem startFastPass_portB (s : State) :
    (startFastPass s).portB = s.portB := rfl
@[simp] theorem startFastPass_console (s : State) :
    (startFastPass s).console = s.console := rfl
@[simp] theorem startFastPass_classCounters (s : State) :
    (startFastPass s).classCounters = s.classCounters := rfl
@[simp] theorem startFastPass_hoseCounters (s : State) :
    (startFastPass s).hoseCounters = s.hoseCounters := rfl
@[simp] theorem startFastPass_alert (s : State) :
    (startFastPass s).alert = s.alert := rfl
@[simp] theorem startFastPass_pending (s : State) :
    (startFastPass s).pending = s.pending := rfl

/-! ### `afterPortChange`: the ports and the walker -/
@[simp] theorem afterPortChange_started (before : State) (s : State) :
    (afterPortChange before s).started = s.started := by
  simp only [afterPortChange]; split <;> simp
@[simp] theorem afterPortChange_cfg (before : State) (s : State) :
    (afterPortChange before s).cfg = s.cfg := by
  simp only [afterPortChange]; split <;> simp
@[simp] theorem afterPortChange_tick (before : State) (s : State) :
    (afterPortChange before s).tick = s.tick := by
  simp only [afterPortChange]; split <;> simp
@[simp] theorem afterPortChange_hoses (before : State) (s : State) :
    (afterPortChange before s).hoses = s.hoses := by
  simp only [afterPortChange]; split <;> simp
@[simp] theorem afterPortChange_holdCounter (before : State) (s : State) :
    (afterPortChange before s).holdCounter = s.holdCounter := by
  simp only [afterPortChange]; split <;> simp
@[simp] theorem afterPortChange_meters (before : State) (s : State) :
    (afterPortChange before s).meters = s.meters := by
  simp only [afterPortChange]; split <;> simp
@[simp] theorem afterPortChange_tags (before : State) (s : State) :
    (afterPortChange before s).tags = s.tags := by
  simp only [afterPortChange]; split <;> simp
@[simp] theorem afterPortChange_vehicles (before : State) (s : State) :
    (afterPortChange before s).vehicles = s.vehicles := by
  simp only [afterPortChange]; split <;> simp
@[simp] theorem afterPortChange_sigma (before : State) (s : State) :
    (afterPortChange before s).sigma = s.sigma := by
  simp only [afterPortChange]; split <;> simp
@[simp] theorem afterPortChange_tableFullTick (before : State) (s : State) :
    (afterPortChange before s).tableFullTick = s.tableFullTick := by
  simp only [afterPortChange]; split <;> simp
@[simp] theorem afterPortChange_tanks (before : State) (s : State) :
    (afterPortChange before s).tanks = s.tanks := by
  simp only [afterPortChange]; split <;> simp
@[simp] theorem afterPortChange_holds (before : State) (s : State) :
    (afterPortChange before s).holds = s.holds := by
  simp only [afterPortChange]; split <;> simp
@[simp] theorem afterPortChange_holdExpiries (before : State) (s : State) :
    (afterPortChange before s).holdExpiries = s.holdExpiries := by
  simp only [afterPortChange]; split <;> simp
@[simp] theorem afterPortChange_console (before : State) (s : State) :
    (afterPortChange before s).console = s.console := by
  simp only [afterPortChange]; split <;> simp
@[simp] theorem afterPortChange_classCounters (before : State) (s : State) :
    (afterPortChange before s).classCounters = s.classCounters := by
  simp only [afterPortChange]; split <;> simp
@[simp] theorem afterPortChange_hoseCounters (before : State) (s : State) :
    (afterPortChange before s).hoseCounters = s.hoseCounters := by
  simp only [afterPortChange]; split <;> simp
@[simp] theorem afterPortChange_alert (before : State) (s : State) :
    (afterPortChange before s).alert = s.alert := by
  simp only [afterPortChange]; split <;> simp
@[simp] theorem afterPortChange_pending (before : State) (s : State) :
    (afterPortChange before s).pending = s.pending := by
  simp only [afterPortChange]; split <;> simp

/-! ### `movePort`: a port and the console port -/
@[simp] theorem movePort_started (p : PortId) (x : PortState) (c : Option FaultCause) (s : State) :
    (movePort p x c s).started = s.started := by
  simp [movePort]
@[simp] theorem movePort_cfg (p : PortId) (x : PortState) (c : Option FaultCause) (s : State) :
    (movePort p x c s).cfg = s.cfg := by
  simp [movePort]
@[simp] theorem movePort_tick (p : PortId) (x : PortState) (c : Option FaultCause) (s : State) :
    (movePort p x c s).tick = s.tick := by
  simp [movePort]
@[simp] theorem movePort_hoses (p : PortId) (x : PortState) (c : Option FaultCause) (s : State) :
    (movePort p x c s).hoses = s.hoses := by
  simp [movePort]
@[simp] theorem movePort_holdCounter (p : PortId) (x : PortState) (c : Option FaultCause) (s : State) :
    (movePort p x c s).holdCounter = s.holdCounter := by
  simp [movePort]
@[simp] theorem movePort_meters (p : PortId) (x : PortState) (c : Option FaultCause) (s : State) :
    (movePort p x c s).meters = s.meters := by
  simp [movePort]
@[simp] theorem movePort_tags (p : PortId) (x : PortState) (c : Option FaultCause) (s : State) :
    (movePort p x c s).tags = s.tags := by
  simp [movePort]
@[simp] theorem movePort_vehicles (p : PortId) (x : PortState) (c : Option FaultCause) (s : State) :
    (movePort p x c s).vehicles = s.vehicles := by
  simp [movePort]
@[simp] theorem movePort_sigma (p : PortId) (x : PortState) (c : Option FaultCause) (s : State) :
    (movePort p x c s).sigma = s.sigma := by
  simp [movePort]
@[simp] theorem movePort_tableFullTick (p : PortId) (x : PortState) (c : Option FaultCause) (s : State) :
    (movePort p x c s).tableFullTick = s.tableFullTick := by
  simp [movePort]
@[simp] theorem movePort_tanks (p : PortId) (x : PortState) (c : Option FaultCause) (s : State) :
    (movePort p x c s).tanks = s.tanks := by
  simp [movePort]
@[simp] theorem movePort_holds (p : PortId) (x : PortState) (c : Option FaultCause) (s : State) :
    (movePort p x c s).holds = s.holds := by
  simp [movePort]
@[simp] theorem movePort_holdExpiries (p : PortId) (x : PortState) (c : Option FaultCause) (s : State) :
    (movePort p x c s).holdExpiries = s.holdExpiries := by
  simp [movePort]
@[simp] theorem movePort_walker (p : PortId) (x : PortState) (c : Option FaultCause) (s : State) :
    (movePort p x c s).walker = s.walker := by
  simp [movePort]
@[simp] theorem movePort_classCounters (p : PortId) (x : PortState) (c : Option FaultCause) (s : State) :
    (movePort p x c s).classCounters = s.classCounters := by
  simp [movePort]
@[simp] theorem movePort_hoseCounters (p : PortId) (x : PortState) (c : Option FaultCause) (s : State) :
    (movePort p x c s).hoseCounters = s.hoseCounters := by
  simp [movePort]
@[simp] theorem movePort_alert (p : PortId) (x : PortState) (c : Option FaultCause) (s : State) :
    (movePort p x c s).alert = s.alert := by
  simp [movePort]
@[simp] theorem movePort_pending (p : PortId) (x : PortState) (c : Option FaultCause) (s : State) :
    (movePort p x c s).pending = s.pending := by
  simp [movePort]

/-! ### `activate`: a port and the console port -/
@[simp] theorem activate_started (p : PortId) (s : State) :
    (activate p s).started = s.started := by
  simp [activate]
@[simp] theorem activate_cfg (p : PortId) (s : State) :
    (activate p s).cfg = s.cfg := by
  simp [activate]
@[simp] theorem activate_tick (p : PortId) (s : State) :
    (activate p s).tick = s.tick := by
  simp [activate]
@[simp] theorem activate_hoses (p : PortId) (s : State) :
    (activate p s).hoses = s.hoses := by
  simp [activate]
@[simp] theorem activate_holdCounter (p : PortId) (s : State) :
    (activate p s).holdCounter = s.holdCounter := by
  simp [activate]
@[simp] theorem activate_meters (p : PortId) (s : State) :
    (activate p s).meters = s.meters := by
  simp [activate]
@[simp] theorem activate_tags (p : PortId) (s : State) :
    (activate p s).tags = s.tags := by
  simp [activate]
@[simp] theorem activate_vehicles (p : PortId) (s : State) :
    (activate p s).vehicles = s.vehicles := by
  simp [activate]
@[simp] theorem activate_sigma (p : PortId) (s : State) :
    (activate p s).sigma = s.sigma := by
  simp [activate]
@[simp] theorem activate_tableFullTick (p : PortId) (s : State) :
    (activate p s).tableFullTick = s.tableFullTick := by
  simp [activate]
@[simp] theorem activate_tanks (p : PortId) (s : State) :
    (activate p s).tanks = s.tanks := by
  simp [activate]
@[simp] theorem activate_holds (p : PortId) (s : State) :
    (activate p s).holds = s.holds := by
  simp [activate]
@[simp] theorem activate_holdExpiries (p : PortId) (s : State) :
    (activate p s).holdExpiries = s.holdExpiries := by
  simp [activate]
@[simp] theorem activate_walker (p : PortId) (s : State) :
    (activate p s).walker = s.walker := by
  simp [activate]
@[simp] theorem activate_classCounters (p : PortId) (s : State) :
    (activate p s).classCounters = s.classCounters := by
  simp [activate]
@[simp] theorem activate_hoseCounters (p : PortId) (s : State) :
    (activate p s).hoseCounters = s.hoseCounters := by
  simp [activate]
@[simp] theorem activate_alert (p : PortId) (s : State) :
    (activate p s).alert = s.alert := by
  simp [activate]
@[simp] theorem activate_pending (p : PortId) (s : State) :
    (activate p s).pending = s.pending := by
  simp [activate]

/-! ### `portToFault`: a port and the console port -/
@[simp] theorem portToFault_started (p : PortId) (c : FaultCause) (s : State) :
    (portToFault p c s).started = s.started := by
  simp [portToFault]
@[simp] theorem portToFault_cfg (p : PortId) (c : FaultCause) (s : State) :
    (portToFault p c s).cfg = s.cfg := by
  simp [portToFault]
@[simp] theorem portToFault_tick (p : PortId) (c : FaultCause) (s : State) :
    (portToFault p c s).tick = s.tick := by
  simp [portToFault]
@[simp] theorem portToFault_hoses (p : PortId) (c : FaultCause) (s : State) :
    (portToFault p c s).hoses = s.hoses := by
  simp [portToFault]
@[simp] theorem portToFault_holdCounter (p : PortId) (c : FaultCause) (s : State) :
    (portToFault p c s).holdCounter = s.holdCounter := by
  simp [portToFault]
@[simp] theorem portToFault_meters (p : PortId) (c : FaultCause) (s : State) :
    (portToFault p c s).meters = s.meters := by
  simp [portToFault]
@[simp] theorem portToFault_tags (p : PortId) (c : FaultCause) (s : State) :
    (portToFault p c s).tags = s.tags := by
  simp [portToFault]
@[simp] theorem portToFault_vehicles (p : PortId) (c : FaultCause) (s : State) :
    (portToFault p c s).vehicles = s.vehicles := by
  simp [portToFault]
@[simp] theorem portToFault_sigma (p : PortId) (c : FaultCause) (s : State) :
    (portToFault p c s).sigma = s.sigma := by
  simp [portToFault]
@[simp] theorem portToFault_tableFullTick (p : PortId) (c : FaultCause) (s : State) :
    (portToFault p c s).tableFullTick = s.tableFullTick := by
  simp [portToFault]
@[simp] theorem portToFault_tanks (p : PortId) (c : FaultCause) (s : State) :
    (portToFault p c s).tanks = s.tanks := by
  simp [portToFault]
@[simp] theorem portToFault_holds (p : PortId) (c : FaultCause) (s : State) :
    (portToFault p c s).holds = s.holds := by
  simp [portToFault]
@[simp] theorem portToFault_holdExpiries (p : PortId) (c : FaultCause) (s : State) :
    (portToFault p c s).holdExpiries = s.holdExpiries := by
  simp [portToFault]
@[simp] theorem portToFault_walker (p : PortId) (c : FaultCause) (s : State) :
    (portToFault p c s).walker = s.walker := by
  simp [portToFault]
@[simp] theorem portToFault_classCounters (p : PortId) (c : FaultCause) (s : State) :
    (portToFault p c s).classCounters = s.classCounters := by
  simp [portToFault]
@[simp] theorem portToFault_hoseCounters (p : PortId) (c : FaultCause) (s : State) :
    (portToFault p c s).hoseCounters = s.hoseCounters := by
  simp [portToFault]
@[simp] theorem portToFault_alert (p : PortId) (c : FaultCause) (s : State) :
    (portToFault p c s).alert = s.alert := by
  simp [portToFault]
@[simp] theorem portToFault_pending (p : PortId) (c : FaultCause) (s : State) :
    (portToFault p c s).pending = s.pending := by
  simp [portToFault]

/-! ### `countCheckError`: a port's counters -/
@[simp] theorem countCheckError_started (p : PortId) (s : State) :
    (countCheckError p s).started = s.started := by
  simp [countCheckError, State.modPortCounters]
@[simp] theorem countCheckError_cfg (p : PortId) (s : State) :
    (countCheckError p s).cfg = s.cfg := by
  simp [countCheckError, State.modPortCounters]
@[simp] theorem countCheckError_tick (p : PortId) (s : State) :
    (countCheckError p s).tick = s.tick := by
  simp [countCheckError, State.modPortCounters]
@[simp] theorem countCheckError_hoses (p : PortId) (s : State) :
    (countCheckError p s).hoses = s.hoses := by
  simp [countCheckError, State.modPortCounters]
@[simp] theorem countCheckError_holdCounter (p : PortId) (s : State) :
    (countCheckError p s).holdCounter = s.holdCounter := by
  simp [countCheckError, State.modPortCounters]
@[simp] theorem countCheckError_meters (p : PortId) (s : State) :
    (countCheckError p s).meters = s.meters := by
  simp [countCheckError, State.modPortCounters]
@[simp] theorem countCheckError_tags (p : PortId) (s : State) :
    (countCheckError p s).tags = s.tags := by
  simp [countCheckError, State.modPortCounters]
@[simp] theorem countCheckError_vehicles (p : PortId) (s : State) :
    (countCheckError p s).vehicles = s.vehicles := by
  simp [countCheckError, State.modPortCounters]
@[simp] theorem countCheckError_sigma (p : PortId) (s : State) :
    (countCheckError p s).sigma = s.sigma := by
  simp [countCheckError, State.modPortCounters]
@[simp] theorem countCheckError_tableFullTick (p : PortId) (s : State) :
    (countCheckError p s).tableFullTick = s.tableFullTick := by
  simp [countCheckError, State.modPortCounters]
@[simp] theorem countCheckError_tanks (p : PortId) (s : State) :
    (countCheckError p s).tanks = s.tanks := by
  simp [countCheckError, State.modPortCounters]
@[simp] theorem countCheckError_holds (p : PortId) (s : State) :
    (countCheckError p s).holds = s.holds := by
  simp [countCheckError, State.modPortCounters]
@[simp] theorem countCheckError_holdExpiries (p : PortId) (s : State) :
    (countCheckError p s).holdExpiries = s.holdExpiries := by
  simp [countCheckError, State.modPortCounters]
@[simp] theorem countCheckError_walker (p : PortId) (s : State) :
    (countCheckError p s).walker = s.walker := by
  simp [countCheckError, State.modPortCounters]
@[simp] theorem countCheckError_console (p : PortId) (s : State) :
    (countCheckError p s).console = s.console := by
  simp [countCheckError, State.modPortCounters]
@[simp] theorem countCheckError_classCounters (p : PortId) (s : State) :
    (countCheckError p s).classCounters = s.classCounters := by
  simp [countCheckError, State.modPortCounters]
@[simp] theorem countCheckError_hoseCounters (p : PortId) (s : State) :
    (countCheckError p s).hoseCounters = s.hoseCounters := by
  simp [countCheckError, State.modPortCounters]
@[simp] theorem countCheckError_alert (p : PortId) (s : State) :
    (countCheckError p s).alert = s.alert := by
  simp [countCheckError, State.modPortCounters]
@[simp] theorem countCheckError_pending (p : PortId) (s : State) :
    (countCheckError p s).pending = s.pending := by
  simp [countCheckError, State.modPortCounters]

/-! ### `adoptShift`: the shift and the console port -/
@[simp] theorem adoptShift_started (n o : Nat) (s : State) :
    (adoptShift n o s).started = s.started := by
  simp only [adoptShift]; split <;> simp
@[simp] theorem adoptShift_cfg (n o : Nat) (s : State) :
    (adoptShift n o s).cfg = s.cfg := by
  simp only [adoptShift]; split <;> simp
@[simp] theorem adoptShift_tick (n o : Nat) (s : State) :
    (adoptShift n o s).tick = s.tick := by
  simp only [adoptShift]; split <;> simp
@[simp] theorem adoptShift_hoses (n o : Nat) (s : State) :
    (adoptShift n o s).hoses = s.hoses := by
  simp only [adoptShift]; split <;> simp
@[simp] theorem adoptShift_holdCounter (n o : Nat) (s : State) :
    (adoptShift n o s).holdCounter = s.holdCounter := by
  simp only [adoptShift]; split <;> simp
@[simp] theorem adoptShift_meters (n o : Nat) (s : State) :
    (adoptShift n o s).meters = s.meters := by
  simp only [adoptShift]; split <;> simp
@[simp] theorem adoptShift_tags (n o : Nat) (s : State) :
    (adoptShift n o s).tags = s.tags := by
  simp only [adoptShift]; split <;> simp
@[simp] theorem adoptShift_vehicles (n o : Nat) (s : State) :
    (adoptShift n o s).vehicles = s.vehicles := by
  simp only [adoptShift]; split <;> simp
@[simp] theorem adoptShift_tableFullTick (n o : Nat) (s : State) :
    (adoptShift n o s).tableFullTick = s.tableFullTick := by
  simp only [adoptShift]; split <;> simp
@[simp] theorem adoptShift_tanks (n o : Nat) (s : State) :
    (adoptShift n o s).tanks = s.tanks := by
  simp only [adoptShift]; split <;> simp
@[simp] theorem adoptShift_holds (n o : Nat) (s : State) :
    (adoptShift n o s).holds = s.holds := by
  simp only [adoptShift]; split <;> simp
@[simp] theorem adoptShift_holdExpiries (n o : Nat) (s : State) :
    (adoptShift n o s).holdExpiries = s.holdExpiries := by
  simp only [adoptShift]; split <;> simp
@[simp] theorem adoptShift_portA (n o : Nat) (s : State) :
    (adoptShift n o s).portA = s.portA := by
  simp only [adoptShift]; split <;> simp
@[simp] theorem adoptShift_portB (n o : Nat) (s : State) :
    (adoptShift n o s).portB = s.portB := by
  simp only [adoptShift]; split <;> simp
@[simp] theorem adoptShift_walker (n o : Nat) (s : State) :
    (adoptShift n o s).walker = s.walker := by
  simp only [adoptShift]; split <;> simp
@[simp] theorem adoptShift_classCounters (n o : Nat) (s : State) :
    (adoptShift n o s).classCounters = s.classCounters := by
  simp only [adoptShift]; split <;> simp
@[simp] theorem adoptShift_hoseCounters (n o : Nat) (s : State) :
    (adoptShift n o s).hoseCounters = s.hoseCounters := by
  simp only [adoptShift]; split <;> simp
@[simp] theorem adoptShift_alert (n o : Nat) (s : State) :
    (adoptShift n o s).alert = s.alert := by
  simp only [adoptShift]; split <;> simp
@[simp] theorem adoptShift_pending (n o : Nat) (s : State) :
    (adoptShift n o s).pending = s.pending := by
  simp only [adoptShift]; split <;> simp

/-! ### `tagReading`: the vehicle table and the console port -/
@[simp] theorem tagReading_started (v x : Nat) (s : State) :
    (tagReading v x s).started = s.started := by
  simp only [tagReading]; repeat' split
  all_goals simp [editVehicle]
@[simp] theorem tagReading_cfg (v x : Nat) (s : State) :
    (tagReading v x s).cfg = s.cfg := by
  simp only [tagReading]; repeat' split
  all_goals simp [editVehicle]
@[simp] theorem tagReading_tick (v x : Nat) (s : State) :
    (tagReading v x s).tick = s.tick := by
  simp only [tagReading]; repeat' split
  all_goals simp [editVehicle]
@[simp] theorem tagReading_hoses (v x : Nat) (s : State) :
    (tagReading v x s).hoses = s.hoses := by
  simp only [tagReading]; repeat' split
  all_goals simp [editVehicle]
@[simp] theorem tagReading_holdCounter (v x : Nat) (s : State) :
    (tagReading v x s).holdCounter = s.holdCounter := by
  simp only [tagReading]; repeat' split
  all_goals simp [editVehicle]
@[simp] theorem tagReading_meters (v x : Nat) (s : State) :
    (tagReading v x s).meters = s.meters := by
  simp only [tagReading]; repeat' split
  all_goals simp [editVehicle]
@[simp] theorem tagReading_tags (v x : Nat) (s : State) :
    (tagReading v x s).tags = s.tags := by
  simp only [tagReading]; repeat' split
  all_goals simp [editVehicle]
@[simp] theorem tagReading_sigma (v x : Nat) (s : State) :
    (tagReading v x s).sigma = s.sigma := by
  simp only [tagReading]; repeat' split
  all_goals simp [editVehicle]
@[simp] theorem tagReading_tableFullTick (v x : Nat) (s : State) :
    (tagReading v x s).tableFullTick = s.tableFullTick := by
  simp only [tagReading]; repeat' split
  all_goals simp [editVehicle]
@[simp] theorem tagReading_tanks (v x : Nat) (s : State) :
    (tagReading v x s).tanks = s.tanks := by
  simp only [tagReading]; repeat' split
  all_goals simp [editVehicle]
@[simp] theorem tagReading_holds (v x : Nat) (s : State) :
    (tagReading v x s).holds = s.holds := by
  simp only [tagReading]; repeat' split
  all_goals simp [editVehicle]
@[simp] theorem tagReading_holdExpiries (v x : Nat) (s : State) :
    (tagReading v x s).holdExpiries = s.holdExpiries := by
  simp only [tagReading]; repeat' split
  all_goals simp [editVehicle]
@[simp] theorem tagReading_portA (v x : Nat) (s : State) :
    (tagReading v x s).portA = s.portA := by
  simp only [tagReading]; repeat' split
  all_goals simp [editVehicle]
@[simp] theorem tagReading_portB (v x : Nat) (s : State) :
    (tagReading v x s).portB = s.portB := by
  simp only [tagReading]; repeat' split
  all_goals simp [editVehicle]
@[simp] theorem tagReading_walker (v x : Nat) (s : State) :
    (tagReading v x s).walker = s.walker := by
  simp only [tagReading]; repeat' split
  all_goals simp [editVehicle]
@[simp] theorem tagReading_classCounters (v x : Nat) (s : State) :
    (tagReading v x s).classCounters = s.classCounters := by
  simp only [tagReading]; repeat' split
  all_goals simp [editVehicle]
@[simp] theorem tagReading_hoseCounters (v x : Nat) (s : State) :
    (tagReading v x s).hoseCounters = s.hoseCounters := by
  simp only [tagReading]; repeat' split
  all_goals simp [editVehicle]
@[simp] theorem tagReading_alert (v x : Nat) (s : State) :
    (tagReading v x s).alert = s.alert := by
  simp only [tagReading]; repeat' split
  all_goals simp [editVehicle]
@[simp] theorem tagReading_pending (v x : Nat) (s : State) :
    (tagReading v x s).pending = s.pending := by
  simp only [tagReading]; repeat' split
  all_goals simp [editVehicle]

/-! ### `dropForFullTable`: a port's counters, the console port and the TABLE_FULL tick -/
@[simp] theorem dropForFullTable_started (p : PortId) (v : Nat) (s : State) :
    (dropForFullTable p v s).started = s.started := by
  simp only [dropForFullTable, State.modPortCounters]; repeat' split
  all_goals simp
@[simp] theorem dropForFullTable_cfg (p : PortId) (v : Nat) (s : State) :
    (dropForFullTable p v s).cfg = s.cfg := by
  simp only [dropForFullTable, State.modPortCounters]; repeat' split
  all_goals simp
@[simp] theorem dropForFullTable_tick (p : PortId) (v : Nat) (s : State) :
    (dropForFullTable p v s).tick = s.tick := by
  simp only [dropForFullTable, State.modPortCounters]; repeat' split
  all_goals simp
@[simp] theorem dropForFullTable_hoses (p : PortId) (v : Nat) (s : State) :
    (dropForFullTable p v s).hoses = s.hoses := by
  simp only [dropForFullTable, State.modPortCounters]; repeat' split
  all_goals simp
@[simp] theorem dropForFullTable_holdCounter (p : PortId) (v : Nat) (s : State) :
    (dropForFullTable p v s).holdCounter = s.holdCounter := by
  simp only [dropForFullTable, State.modPortCounters]; repeat' split
  all_goals simp
@[simp] theorem dropForFullTable_meters (p : PortId) (v : Nat) (s : State) :
    (dropForFullTable p v s).meters = s.meters := by
  simp only [dropForFullTable, State.modPortCounters]; repeat' split
  all_goals simp
@[simp] theorem dropForFullTable_tags (p : PortId) (v : Nat) (s : State) :
    (dropForFullTable p v s).tags = s.tags := by
  simp only [dropForFullTable, State.modPortCounters]; repeat' split
  all_goals simp
@[simp] theorem dropForFullTable_vehicles (p : PortId) (v : Nat) (s : State) :
    (dropForFullTable p v s).vehicles = s.vehicles := by
  simp only [dropForFullTable, State.modPortCounters]; repeat' split
  all_goals simp
@[simp] theorem dropForFullTable_sigma (p : PortId) (v : Nat) (s : State) :
    (dropForFullTable p v s).sigma = s.sigma := by
  simp only [dropForFullTable, State.modPortCounters]; repeat' split
  all_goals simp
@[simp] theorem dropForFullTable_tanks (p : PortId) (v : Nat) (s : State) :
    (dropForFullTable p v s).tanks = s.tanks := by
  simp only [dropForFullTable, State.modPortCounters]; repeat' split
  all_goals simp
@[simp] theorem dropForFullTable_holds (p : PortId) (v : Nat) (s : State) :
    (dropForFullTable p v s).holds = s.holds := by
  simp only [dropForFullTable, State.modPortCounters]; repeat' split
  all_goals simp
@[simp] theorem dropForFullTable_holdExpiries (p : PortId) (v : Nat) (s : State) :
    (dropForFullTable p v s).holdExpiries = s.holdExpiries := by
  simp only [dropForFullTable, State.modPortCounters]; repeat' split
  all_goals simp
@[simp] theorem dropForFullTable_walker (p : PortId) (v : Nat) (s : State) :
    (dropForFullTable p v s).walker = s.walker := by
  simp only [dropForFullTable, State.modPortCounters]; repeat' split
  all_goals simp
@[simp] theorem dropForFullTable_classCounters (p : PortId) (v : Nat) (s : State) :
    (dropForFullTable p v s).classCounters = s.classCounters := by
  simp only [dropForFullTable, State.modPortCounters]; repeat' split
  all_goals simp
@[simp] theorem dropForFullTable_hoseCounters (p : PortId) (v : Nat) (s : State) :
    (dropForFullTable p v s).hoseCounters = s.hoseCounters := by
  simp only [dropForFullTable, State.modPortCounters]; repeat' split
  all_goals simp
@[simp] theorem dropForFullTable_alert (p : PortId) (v : Nat) (s : State) :
    (dropForFullTable p v s).alert = s.alert := by
  simp only [dropForFullTable, State.modPortCounters]; repeat' split
  all_goals simp
@[simp] theorem dropForFullTable_pending (p : PortId) (v : Nat) (s : State) :
    (dropForFullTable p v s).pending = s.pending := by
  simp only [dropForFullTable, State.modPortCounters]; repeat' split
  all_goals simp

end Sys2Proof.Machine
end

