-- ==== Sys2Proof/WellFormed.lean ====
section
/-!
DEFINITION. The commands whose operands can come from the hardware around the part.

An operand type already holds most ranges (a hose is 0 to 3, a byte has 8 bits). The checks here are the
rest: a command that fails one stands for no event of the part. `exec` is total all the same.
-/

namespace Sys2Proof

open Machine

/-- R164: BAD_COMMAND is a code that names no command. -/
def badCode (code : Byte) : Bool := (paramBytes code).isNone

/-- R116: a station of the site. -/
def stationNumber (k : Nat) : Bool := decide (1 ≤ k) && decide (k ≤ 16)

/-- R183: a probe sample is a signed two-byte temperature. -/
def sampleFits (x : Int) : Bool := decide (-32768 ≤ x) && decide (x ≤ 32767)

/-- R50: the engine hours of an hours page. -/
def pageHours (hours : Word) : Bool := decide (hours.toNat ≤ maxHours)

/-- R142: bytes of one frame or of a fragment of one: at least one byte, none beyond the end that the
length byte sets, and no gap after the first: a byte that ends a gap begins the next frame (log 28). -/
def oneFrame (bytes : List LineByte) : Bool :=
  (bytes.tail.all fun x => !x.gapBefore) &&
  match bytes with
  | [] => false
  | _ :: _ :: l :: rest =>
    if l.data.toNat ≤ 64 then decide (rest.length ≤ l.data.toNat + 2) else rest.isEmpty
  | _ => true

/-- R132, R138: bits of one frame or of a fragment of one, from a dominant start bit up to its end field. -/
def oneBitFrame (bits : List Bool) : Bool :=
  let len := bitsValue ((bits.drop 12).take 8)
  decide (bits.head? = some false) &&
    (decide (bits.length ≤ 20) || (decide (len ≤ 64) && decide (bits.length ≤ 44 + 8 * len)))

/-- R188: an access that reads nothing: no complete data read, which is a command of its own. -/
def readsNothing (mosi : List Bool) : Bool :=
  decide (mosi.length < 16) || decide (bitsValue (mosi.take 8) ≠ 3)

/-- Whether a command is well formed. -/
def Instr.wellFormed (i : Instr) : Bool :=
  match i with
  | .badCommand code => badCode code
  | .holdExpiry station _ => stationNumber station
  | .flowWindowEnd _ sample => sampleFits sample
  | .hoursPage _ _ hours => pageHours hours
  | .tagByteReceived _ x => goodByte x
  | .portBFrameReceived bytes _ => oneFrame bytes
  | .portAFrameReceived bits _ => oneBitFrame bits
  | .dataWrite mosi _ => readsNothing mosi
  | .powerOnReset | .setStation _ _ | .setClass _ _ _ | .setHose _ _ _ | .setTank _ _ _ | .start
  | .restart | .enrolVehicle _ _ | .retireVehicle _ | .setPreset _ _ | .manualAuthorise _ _ _
  | .stopHose _ | .returnHose _ | .openShift | .recordService _ _ _ | .recordDelivery _ _
  | .reopenTank _ _ | .reportGauge _ _ | .soundAlert _ | .readStation | .readHose _
  | .readVehicle _ | .readTank _ | .readCounters _ | .fetchEvent | .dataRead
  | .switchInitialLevel _ _ | .lift _ | .hangUp _ | .liftTimeout _ | .holdQueued _ _
  | .queueWaitExpiry _ | .settleExpiry _ _ | .phaseChange _ _ _ | .noFlowExpiry _
  | .durationExpiry _ | .serviceLampExpiry _ | .tagReturnExpiry _ | .afterFlowExpiry _
  | .issueQueued _ | .identityPage _ _ _ _ _ | .tagMessageDiscard _ _ | .gapTimeout _
  | .tagOverrun _ | .breakStart _ | .breakEnd _ | .tagWatchExpiry _ | .lampCommandSend _
  | .lampCommandComplete _ | .lampCommandDropped _ | .alertPatternEnd | .frameAttempt
  | .contentionLost | .transmitFailure _ | .noIdleTimeout _ | .portAFrameComplete _
  | .recoveryExpiry | .portBFrameStart | .portBFrameSent _ | .ctsFall | .ctsRise
  | .stallExpiry _ | .silenceExpiry _ | .holdMerge _ | .rollcallMerge _ | .shiftMerge _
  | .serviceMerge _ | .issueMerge _ | .stateMerge _ | .stockMerge _ | .holdRefresh _
  | .walkerStep | .nonNoticeFrameMerge _ | .tick => true

end Sys2Proof
end

