-- ==== Sys2Proof/Tests/Slice0.lean ====
section
/-!
SUPPORT. Own tests: ill-formed commands that the check refuses, worked cases of the manual, and, for every
statement that has hypotheses, states and operands that meet them.
-/

namespace Sys2Proof.Tests

open Sys2Proof Sys2Proof.Machine

/-! ### Well-formed commands -/

theorem test_refuses_a_known_code_as_bad :
    (Instr.badCommand 0x25).wellFormed = false ∧ (Instr.badCommand 0x26).wellFormed = true := by
  decide

theorem test_refuses_a_station_outside_the_site :
    (Instr.holdExpiry 0 0).wellFormed = false ∧ (Instr.holdExpiry 17 0).wellFormed = false ∧
      (Instr.holdExpiry 16 0).wellFormed = true := by
  decide

theorem test_refuses_a_sample_of_three_bytes :
    (Instr.flowWindowEnd 0 32768).wellFormed = false ∧
      (Instr.flowWindowEnd 0 (-32769)).wellFormed = false ∧
      (Instr.flowWindowEnd 0 (-32768)).wellFormed = true := by
  decide

theorem test_refuses_hours_out_of_range :
    (Instr.hoursPage 0 true 100000000).wellFormed = false ∧
      (Instr.hoursPage 0 true 99999999).wellFormed = true := by
  decide

theorem test_refuses_a_bad_byte_as_received :
    (Instr.tagByteReceived 0 ⟨false, dataLevels 0x31, true, true, false⟩).wellFormed = false ∧
      (Instr.tagByteReceived 0 (onTagLink 0x31 false)).wellFormed = true := by
  decide

theorem test_refuses_bytes_past_a_frame_and_after_a_gap :
    (Instr.portBFrameReceived [] (Quad.all .good)).wellFormed = false ∧
      (Instr.portBFrameReceived [onLine 0 true, onLine 0 false, onLine 65 false, onLine 0 false]
        (Quad.all .good)).wellFormed = false ∧
      (Instr.portBFrameReceived [onLine 0 true, onLine 0 true] (Quad.all .good)).wellFormed = false ∧
      (Instr.portBFrameReceived [onLine 0 true, onLine 0 false] (Quad.all .good)).wellFormed = true := by
  decide

theorem test_refuses_bits_without_a_start_bit_and_past_a_frame :
    (Instr.portAFrameReceived (List.replicate 44 true) (Quad.all .good)).wellFormed = false ∧
      (Instr.portAFrameReceived (List.replicate 45 false) (Quad.all .good)).wellFormed = false ∧
      (Instr.portAFrameReceived (List.replicate 44 false) (Quad.all .good)).wellFormed = true := by
  decide

theorem test_refuses_a_data_read_as_a_data_write :
    (Instr.dataWrite (bitsHigh 0x03 ++ bitsHigh 0) (Quad.all .good)).wellFormed = false ∧
      (Instr.dataWrite (bitsHigh 0x03) (Quad.all .good)).wellFormed = true ∧
      (Instr.dataWrite (writeBits 0x25) (Quad.all .good)).wellFormed = true := by
  decide

/-! ### Worked cases of the manual -/

/-- Chapter 12: vehicle 1204 of class 2 with toggle 0. -/
theorem test_identity_page_of_the_manual :
    identityBytes 1204 2 false = [0x31, 0x00, 0x04, 0xB4, 0x02, 0x15] := by
  decide

/-- R185: the register after one input bit from all ones. -/
theorem test_check_register : crc [true] = 0xFFFE ∧ crc [false] = 0xEFDF := by decide

/-- R184: a SHIFT of station 3 with shift 42, bit by bit from its start bit up to its payload, and its bytes on port
B. -/
theorem test_frame_of_a_shift :
    let f : Frame := ⟨1, 3, false, 3, [0, 42]⟩
    (encodeA f).take 20 = [false, false, true, false, false, true, false, false, false, false, true, true,
      false, false, false, false, false, false, true, false] ∧
    (encodeB f).take 5 = [0x42, 0x03, 0x02, 0x00, 0x2A] := by
  decide

/-- R183, R188: the bits of a data write of 0x25, and a byte on port B between its start and its stop bit. -/
theorem test_bits_of_the_console_and_of_port_b :
    writeBits 0x25 = [false, false, false, false, false, false, true, false,
      false, false, true, false, false, true, false, true] ∧
    lineBitsB 0x25 = [false, true, false, true, false, false, true, false, false, true] := by
  decide

/-- Section 12.1: the numbers of four kinds of code. -/
theorem test_codes :
    hoseStateCode .disabled = [10] ∧ endReasonCode .restart = [13] ∧ refusalCode .doubleHold = [10] ∧
    lampCode .amberFlash = [5] ∧ faultCode (some .duplicate) = [3] ∧ originCode .notice = [3] ∧
    flagsCode { DispenseFlags.clear with capped := true, manual := true } = [0x41] := by
  decide

/-- Sections 2.11 and 2.13: the hose of the examples. -/
def referenceHose : HoseCfg :=
  { HoseCfg.default with kh := 25000, b1 := 200, b2 := 500, b3 := 800, c0 := -35, c1 := -10, c3 := 12 }

/-- One window of a unit with a net count. -/
def windowOf (alpha : Nat) (pw sample : Int) (m : Meter) : Meter :=
  dispenseWindow referenceHose alpha sample { m with net := pw }

/-- Section 2.11. -/
theorem test_reference_conversion :
    let m2 := windowOf 830 1000 326 (windowOf 830 1000 325 Meter.reset)
    let m3 := windowOf 830 (-20) 326 m2
    m2.s = 788 ∧ m3.c = 19824700 ∧ m3.acc = 780463664 ∧ m3.s = 780 ∧ m3.reverseTotal = 8 := by
  decide

/-- Section 2.13. -/
theorem test_reverse_conversion :
    let m3 := windowOf 0 (-250) 150 (windowOf 0 1000 150 (windowOf 0 (-30) 150 Meter.reset))
    let m4 := windowOf 0 (-300) 150 m3
    m3.reverseReported = false ∧ m4.reverseTotal = 220 ∧ m4.reverseReported = true ∧ m4.s = 180 := by
  decide

/-- Section 5.4. -/
theorem test_per_mille_of_the_manual :
    let r : VehicleRecord :=
      { newRecord 1204 (some 2) .tag 0 with
        serviceMap := [(2, 5530000)], latestHours := some 124805, hoursAtService := some 121010 }
    perMille ClassCfg.default r = 921 ∧ statusOf ClassCfg.default 921 = .due := by
  decide

/-- Section 6.8: the levels of the tank. -/
def referenceTank : TankCfg :=
  { TankCfg.default with reserve := 6000000, critical := 2500000, cutoff := 500000, hysteresis := 200000 }

/-- Sections 6.8 and 6.9. -/
theorem test_stages_of_the_manual :
    deriveStage referenceTank .normal (some 5345000) = .reserve ∧
    deriveStage referenceTank .critical (some 5345000) = .reserve ∧
    deriveStage referenceTank .reserve (some 2450000) = .critical ∧
    deriveStage referenceTank .critical (some 2460000) = .critical ∧
    deriveStage referenceTank .critical (some 5460000) = .reserve ∧
    deriveStage referenceTank .cutoff (some 498600) = .cutoff := by
  decide

/-! ### Small states -/

/-- A hose at rest in a state. -/
def hoseIn (x : HoseState) : Hose := setHoseState x Hose.reset

/-- A port in ACTIVE. -/
def livePort : Port := { Port.reset with state := .active, silenceTimer := some 30000, cts := true }

/-- Vehicle 1204 of class 2. -/
def truck : VehicleRecord := newRecord 1204 (some 2) .tag 0

/-- A tank with stock, in NORMAL. -/
def fullTank : Tank := { Tank.reset with period := 1, opening := 9000000, openingPending := false, stage := .normal }

/-- Station 5 in RUNNING: both ports ACTIVE with the relay option, the hoses in IDLE. -/
def on : State :=
  { State.reset with
    started := true
    cfg := { Cfg.default with station := { StationCfg.default with
      number := some 5, portA := ⟨true, true⟩, portB := ⟨true, true⟩ } }
    hoses := Quad.all (hoseIn .idle), tanks := Quad.all fullTank
    vehicles := [truck], portA := livePort, portB := livePort }

/-- A dispense for vehicle 1204. -/
def sale : Dispense := ⟨1204, 2, 7, 0, 0, 40000, 0, none, .clear, none, false⟩

/-- Timers that all run. -/
def running : HoseTimers := ⟨some 1, some 1, some 1, some 1, some 1, some 1, some 1, some 1⟩

/-- Hose 0 in a state with a dispense. -/
def sells (x : HoseState) : State :=
  withHose 0 { hoseIn x with dispense := some sale, lifted := true, timers := running } on

/-- Hose 0 in a state without one. -/
def rests (x : HoseState) : State :=
  withHose 0 { hoseIn x with lifted := true, timers := running } on

/-- The tag link of hose 0 changed. -/
def linked (f : TagLink → TagLink) (s : State) : State := withTag 0 (f (s.tag 0)) s

/-- The own hold of hose 0, and one of station 3. -/
def held (s : State) : State :=
  { s with holds := [⟨3, 1, 600, 0, 0, 20000, 4, 60⟩, ⟨5, 0, 1204, 0, 0, 40000, 7, 20⟩] }

/-- A frame in a queue. -/
def entry : QueueEntry := ⟨⟨1, 5, false, 3, [0, 0]⟩, .ordinary, none⟩

/-- Port A changed. -/
def withA (f : Port → Port) (s : State) : State := { s with portA := f s.portA }

/-- Port B changed. -/
def withB (f : Port → Port) (s : State) : State := { s with portB := f s.portB }

/-- A frame of station 3 at the head of port A's FIFO. -/
def hearing (kind : BitVec 4) (payload : List Byte) (s : State) : State :=
  withA (fun x => { x with fifo := [⟨1, 3, false, kind, payload⟩] }) s

/-- The head of that FIFO. -/
def heard (kind : BitVec 4) (payload : List Byte) : Frame := ⟨1, 3, false, kind, payload⟩

/-! ### States that meet the hypotheses of the statements

Each theorem is named after the statement; each line is one clause of it, most at a bound of its range. -/

/-- StepRunsTheFrontCommand. -/
theorem test_case_step : State.reset.pending = [] := by decide

/-- SetStationAndSetClassStoreTheirItems: RUNNING; CONFIG with the bounds of item 1 and of item 6; a value
past a bound; no item; no class. -/
theorem test_case_set_station_class :
    on.started = true ∧ State.reset.started = false ∧
    (stationItems.any fun r => decide (r.selector = 1) && r.takes 16#32) = true ∧
    (stationItems.all fun r => decide (r.selector ≠ 1) || !r.takes 17#32) = true ∧
    (stationItems.all fun r => decide (r.selector ≠ 13)) = true ∧
    (classItems.any fun r => decide (r.selector = 6) && r.takes 999#32) = true ∧
    (classItems.all fun r => decide (r.selector ≠ 6) || !r.takes 1000#32) = true ∧
    7 < (8 : Byte).toNat := by
  decide

/-- SetHoseAndSetTankStoreTheirItems: the bounds of item 11 of a hose and item 1 of a tank. -/
theorem test_case_set_hose_tank :
    on.started = true ∧ State.reset.started = false ∧
    (hoseItems.any fun r => decide (r.selector = 11) && r.takes (BitVec.ofInt 32 (-200))) = true ∧
    (hoseItems.all fun r => decide (r.selector ≠ 11) || !r.takes (BitVec.ofInt 32 (-201))) = true ∧
    (tankItems.any fun r => decide (r.selector = 1) && r.takes 1000#32) = true ∧
    (tankItems.all fun r => decide (r.selector ≠ 1) || !r.takes 999#32) = true ∧
    3 < (4 : Byte).toNat := by
  decide

/-- A numbered station in CONFIG. -/
def numbered : State :=
  { State.reset with cfg := { Cfg.default with station := { StationCfg.default with number := some 16 } } }

/-- StartReportsTheFirstFailedTest: no number; hose 0 out of order; tank 3 out of order; a store that passes. -/
theorem test_case_start_refused :
    (numbered.started = false ∧ (∀ h : HoseId, hoseInOrder (numbered.hoseCfg h)) ∧
      ∀ k : TankId, tankInOrder (numbered.tankCfg k)) ∧ (State.reset.started = false ∧ State.reset.cfg.station.number = none) ∧
    (let s : State := { numbered with cfg := { numbered.cfg with
        hoses := numbered.cfg.hoses.set 0 { HoseCfg.default with b1 := 300, b2 := 300 } } };
      s.started = false ∧ s.cfg.station.number ≠ none ∧
        (∀ k : HoseId, k < 0 → hoseInOrder (s.hoseCfg k)) ∧ ¬hoseInOrder (s.hoseCfg 0)) ∧
    (let s : State := { numbered with cfg := { numbered.cfg with
        tanks := numbered.cfg.tanks.set 3 { TankCfg.default with cutoff := 1500000 } } };
      (∀ h : HoseId, hoseInOrder (s.hoseCfg h)) ∧ (∀ j : TankId, j < 3 → tankInOrder (s.tankCfg j)) ∧
        ¬tankInOrder (s.tankCfg 3)) := by
  unfold hoseInOrder tankInOrder
  decide

/-- StartBringsTheStationUp: RUNNING; hose 1 lifted, hose 2 not fitted, port B not configured; the events of
Start. -/
theorem test_case_start :
    let s : State := { numbered with
      hoses := numbered.hoses.set 1 { Hose.reset with lifted := true }
      cfg := { numbered.cfg with hoses := numbered.cfg.hoses.set 2 { HoseCfg.default with fitted := false } } }
    on.started = true ∧ s.started = false ∧ s.cfg.station.number ≠ none ∧
    (∀ h : HoseId, hoseInOrder (s.hoseCfg h) ∧ (s.hose h).state = .disabled ∧
      (s.hose h).dispense = none ∧ (s.hose h).pendingIssue = ⟨false, false⟩) ∧
    (∀ k : TankId, tankInOrder (s.tankCfg k)) ∧
    (∀ p : PortId, (s.port p).state = .off ∧ (s.port p).urgent = [] ∧ (s.port p).routine = []) ∧
    ((s.hoseCfg 1).fitted = true ∧ (s.hose 1).lifted = true) ∧
    ((s.hoseCfg 0).fitted = true ∧ (s.hose 0).lifted = false) ∧ (s.hoseCfg 2).fitted = false ∧
    (s.portCfg .a).configured = true ∧ (s.portCfg .b).configured = false ∧
    startReports s (bringUp s) = [(0, .hoseState .idle .disabled), (1, .hoseState .lifted .disabled),
      (3, .hoseState .idle .disabled), (0, .lineState .active .off none)] := by
  unfold hoseInOrder tankInOrder
  and_intros <;> first | decide | (intro p; cases p <;> decide)

/-- RestartEndsDispensesAndClearsTheBlocks: CONFIG; a dispense, a lifted hose, idle hoses and a port in
RUNNING; hoses in ENDED and REFUSED that owe an ISSUE, and one in REFUSED that owes none. -/
theorem test_case_restart :
    State.reset.started = false ∧
    (let s := withHose 1 (hoseIn .lifted) (sells .paused);
      s.started = true ∧ dispensesIn (s.hose 0).state ∧ (s.hose 0).dispense = some sale ∧
        (s.hose 1).state = .lifted ∧ (s.hose 2).state = .idle ∧ (s.hoseCfg 3).fitted = true ∧
        (s.portCfg .a).configured = true) ∧
    (let owes (x : HoseState) : Hose :=
        { hoseIn x with pendingIssue := ⟨true, false⟩, issue := some entry.frame };
      let s := withHose 0 (owes .refused) (withHose 1 (owes .ended) on);
      issuesAgain [0, 1, 2, 3] s = [entry.frame, entry.frame] ∧ (s.hose 0).lifted = false ∧
        ¬requeuesIssue (hoseIn .refused)) := by
  decide

/-- Vehicle 1204 with a class that no tag has settled. -/
def unsettledTruck : VehicleRecord := { truck with settled := false }

/-- R67: a source meets a settled record as it is. -/
theorem meets_a_settled_record {o : Origin} {v : Nat} {cls : Option ClassId} {s : State} {y : VehicleRecord}
    (found : findVehicle v s = some y) (settled : y.settled = true) : recordMet o v cls s y :=
  .inl ⟨y, found, fun _ => rfl, fun _ _ h => absurd (settled.symm.trans h) (by decide)⟩

/-- R67: a class settles a record that none has settled. -/
theorem meets_an_unsettled_record {o : Origin} {v : Nat} {c : ClassId} {s : State} {y : VehicleRecord}
    (found : findVehicle v s = some y) (unsettled : y.settled = false) :
    recordMet o v (some c) s { y with cls := c, settled := true, touched := s.tick } :=
  .inl ⟨y, found,
    fun h => h.elim (fun h => nomatch h) (fun h => absurd (h.symm.trans unsettled) (by decide)),
    fun _ h _ => by cases h; rfl⟩

/-- R65: a source creates a record that is not there. -/
theorem meets_a_new_record {o : Origin} {v : Nat} {c : ClassId} {s : State}
    (absent : findVehicle v s = none) (room : s.vehicles.length < 320) :
    recordMet o v (some c) s ⟨v, c, true, 0, [], 0, none, [], none, none, .ok, o, s.tick⟩ :=
  .inr ⟨absent, room, rfl⟩

/-- Tables that hold records of one vehicle alone hold those of all others alike. -/
theorem keeps_a_table_of_one {v : Nat} {s t : State} (before : ∀ x ∈ s.vehicles, x.vehicle = v)
    (after : ∀ x ∈ t.vehicles, x.vehicle = v) : otherVehiclesKept v s t := by
  intro u other
  have none_of (w : State) (h : ∀ x ∈ w.vehicles, x.vehicle = v) : findVehicle u w = none := by
    simp only [findVehicle, List.find?_eq_none]
    intro x mem same
    exact other ((of_decide_eq_true same).symm.trans (h x mem))
  rw [none_of s before, none_of t after]

/-- A table of 320 records without vehicle 1204. -/
def crowd : List VehicleRecord := List.replicate 320 (newRecord 2000 none .notice 0)

set_option maxRecDepth 8000 in
/-- EnrolAndRetireChangeOneRecord: CONFIG; a bad number and a bad class; a full table; a new vehicle; a known
one; retirement of an unknown, a dispensing and a free vehicle. -/
theorem test_case_enrol :
    State.reset.started = false ∧ on.started = true ∧
    (¬vehicleNumber 0 ∧ ¬vehicleNumber 65535 ∧ 7 < (8 : Byte).toNat) ∧
    (vehicleNumber 1 ∧ (7 : Byte).toNat ≤ 7 ∧ findVehicle 1 { on with vehicles := crowd } = none ∧
      320 ≤ crowd.length) ∧
    (vehicleNumber 65534 ∧ recordMet .enrol 65534 (some 7) on (newRecord 65534 (some 7) .enrol 0)) ∧
    (vehicleNumber 1204 ∧ recordMet .enrol 1204 (some 3) on truck) ∧
    recordMet .enrol 1204 (some 3) { on with vehicles := [unsettledTruck] }
      { unsettledTruck with cls := 3, settled := true } ∧
    (findVehicle 1204 (sells .closing) ≠ none ∧ dispensesFor (sells .closing) 1204) ∧
    (findVehicle 1204 on ≠ none ∧ ∀ (h : HoseId), (on.hose h).dispense = none) := by
  unfold vehicleNumber
  and_intros <;> first
    | decide
    | exact ⟨0, sale, .inr (.inr (.inr (.inr rfl))), rfl, rfl⟩
    | exact meets_a_settled_record rfl rfl
    | exact meets_an_unsettled_record (y := unsettledTruck) rfl rfl
    | exact meets_a_new_record rfl (by decide)

/-- OpenShiftRaisesTheShiftAndQueuesIt: CONFIG; the last shift; a full routine queue; room. -/
theorem test_case_open_shift :
    State.reset.started = false ∧
    (on.started = true ∧ { on with sigma := 65535 }.sigma = 65535) ∧
    (let s := withA (fun x => { x with routine := List.replicate 32 entry }) on;
      s.sigma ≠ 65535 ∧ takesNotices s .a ∧ freeRoutine s .a = 0) ∧
    (on.sigma ≠ 65535 ∧ ∀ p, takesNotices on p → 0 < freeRoutine on p) := by
  unfold takesNotices
  and_intros <;> first | decide | (intro p; cases p <;> decide)

/-- RecordServiceStartsAGeneration: CONFIG; a bad number; bad hours; an unknown vehicle; the last
generation; a full queue; the three ways of hours. -/
theorem test_case_record_service :
    State.reset.started = false ∧ on.started = true ∧ ¬vehicleNumber 65535 ∧
    ((2 : Byte).getLsbD 1 = true ∧ 99999999 < (100000000 : Word).toNat) ∧
    (vehicleNumber 7 ∧ findVehicle 7 on = none) ∧
    (let s : State := { on with vehicles := [{ truck with generation := 65535 }] };
      findVehicle 1204 s = some { truck with generation := 65535 }) ∧
    (let s := withA (fun x => { x with routine := List.replicate 32 entry }) on;
      truck.generation ≠ 65535 ∧ takesNotices s .a ∧ freeRoutine s .a = 0) ∧
    (findVehicle 1204 on = some truck ∧ (∀ p, takesNotices on p → 0 < freeRoutine on p) ∧
      (99999999 : Word).toNat ≤ 99999999 ∧ (0 : Byte).getLsbD 1 = false) := by
  unfold takesNotices vehicleNumber
  and_intros <;> first | decide | (intro p; cases p <;> decide)

/-- SetPresetStoresAClampedRequest: CONFIG; no hose; a busy hose; 0 litres; the highest maximum. -/
theorem test_case_set_preset :
    State.reset.started = false ∧ (on.started = true ∧ 3 < (4 : Byte).toNat) ∧
    ((sells .running).hose 0).state = .running ∧
    ((on.hose 3).state = .idle ∧ (3 : Byte).toNat = (3 : HoseId).val ∧ (0 : Half).toNat = 0) ∧
    ((∀ c, (on.classCfg c).maxPreset ≤ 100000) ∧ (on.classCfg 7).maxPreset = 100000 ∧
      (65535 : Half).toNat ≠ 0) := by
  decide

/-- StopHoseEndsByTheStateOfTheHose and ReturnHoseBringsADisabledHoseBack: each state group; a DISABLED hose
with its nozzle hung up and lifted. -/
theorem test_case_stop_return :
    State.reset.started = false ∧ (on.started = true ∧ 3 < (4 : Byte).toNat) ∧
    ((sells .paused).started = true ∧ ((sells .paused).hose 0).state = .paused) ∧
    (((sells .holding).hose 0).state = .holding ∧ ((sells .holding).hose 0).dispense = some sale ∧
      ((sells .holding).hose 0).lifted = true) ∧
    ((sells .closing).hose 0).state = .closing ∧ ((rests .refused).hose 0).state = .refused ∧
    ((on.hoseCfg 0).fitted = true ∧ ((rests .disabled).hose 0).state = .disabled ∧
      ((rests .disabled).hose 0).lifted = true) ∧
    (let s := withHose 0 (hoseIn .disabled) on;
      (s.hose 0).state = .disabled ∧ (s.hose 0).lifted = false) ∧ (on.hose 0).state ≠ .disabled := by
  decide

/-- TankCommandsKeepTheAccount: values at and past their bounds; a full queue; a pending opening and a known
one. -/
theorem test_case_tank_commands :
    State.reset.started = false ∧ (on.started = true ∧ 3 < (4 : Byte).toNat) ∧
    ((0 : Word).toNat = 0 ∧ 200000000 < (200000001 : Word).toNat ∧
      ¬((200000000 : Word).toNat = 0 ∨ 200000000 < (200000000 : Word).toNat)) ∧
    ((on.tankCfg 0).capacity < (10000001 : Word).toNat ∧ ¬(on.tankCfg 0).capacity < (10000000 : Word).toNat) ∧
    ((withTank 0 { fullTank with period := 65535 } on).tank 0).period = 65535 ∧
    65535 < gaugeNumber { fullTank with gauge := some ⟨65535, 5, 0, 0, 0⟩ } ∧
    roomForStock 0 (delivered 0 1 on) on ∧
    ¬roomForStock 0 (delivered 0 1 on) (withA (fun x => { x with routine := List.replicate 32 entry }) on) ∧
    gaugeVariance 0 8900000 on = some (-100000) ∧ exceedsLimit 0 8900000 on = false ∧
    exceedsLimit 0 8899999 on = true := by
  unfold roomForStock takesNotices
  and_intros <;> first | decide | (intro p; cases p <;> decide) | (intro f; exact absurd (f .a (by decide)) (by decide))

/-- AlertPatternsFollowTheirRequests: CONFIG; the bounds; a pattern with and without a hose in PAUSED; none. -/
theorem test_case_alert :
    State.reset.started = false ∧ on.started = true ∧
    (1 ≤ (100 : Byte).toNat ∧ (100 : Byte).toNat ≤ 100) ∧ 100 < (101 : Byte).toNat ∧
    (let s : State := { sells .paused with alert := .refuse };
      s.alert = .refuse ∧ (s.hose 0).state = .paused) ∧
    (let s : State := { on with alert := .sound 1 };
      s.alert = .sound 1 ∧ ∀ h : HoseId, (s.hose h).state ≠ .paused) ∧ on.alert = .none := by
  decide

/-! #### Authorisation -/

/-- A stage of tank 0. -/
def staged (x : Stage) (s : State) : State := withTank 0 { fullTank with stage := x } s

/-- Class 2 with a priority and a limp volume. -/
def classed (priority limp : Nat) (s : State) : State :=
  { s with cfg := { s.cfg with
      classes := s.cfg.classes.set 2 { ClassCfg.default with priority := priority, limp := limp } } }

/-- The truck with a status. -/
def rated (x : ServiceStatus) (s : State) : State := { s with vehicles := [{ truck with status := x }] }

/-- EvaluationMakesTheFiveChecksInOrder: no record; held; CUTOFF; a stage that does not serve; a locked vehicle
without limp; an allowance below the minimum dispense; a grant at the minimum. -/
theorem test_case_evaluation :
    on.started = true ∧ findVehicle 7 on = none ∧ findVehicle 1204 on = some truck ∧
    (∃ e ∈ (held on).holds, e.vehicle = 1204) ∧
    (¬(∃ e ∈ on.holds, e.vehicle = 1204) ∧ ((staged .cutoff on).tank 0).stage = .cutoff) ∧
    (¬stageServes .reserve 2 ∧ ¬stageServes .critical 1 ∧ stageServes .reserve 1 ∧ stageServes .critical 0) ∧
    (((classed 0 0 (rated .locked on)).classCfg 2).limp = 0 ∧ { truck with status := .locked }.status = .locked) ∧
    (fractionIs 100 on ∧ smallestOf (grantVolumes 100 0 on truck) 100000 ∧
      on.cfg.station.minDispense ≤ 100000) ∧
    (let s := withHose 0 { hoseIn .lifted with requested := some 1999 } on;
      smallestOf (grantVolumes 100 0 s truck) 1999 ∧ 1999 < s.cfg.station.minDispense) ∧
    (let s := withHose 0 { hoseIn .lifted with requested := some 2000 } on;
      smallestOf (grantVolumes 100 0 s truck) 2000 ∧ s.cfg.station.minDispense ≤ 2000) := by
  have shut : ¬cutOffFromSite on := fun f => absurd (f .a rfl) (by decide)
  unfold stageServes fractionIs smallestOf
  and_intros <;> first | decide | exact fun f => absurd f shut | exact fun _ => rfl

/-- A site whose ports are silent. -/
def alone : State := withB (fun x => { x with state := .silent }) (withA (fun x => { x with state := .silent }) on)

/-- EvaluationMakesTheFiveChecksInOrder: a station cut off from its site has the isolated fraction. -/
theorem test_case_evaluation_isolated : cutOffFromSite alone ∧ fractionIs 50 alone := by
  have shut : cutOffFromSite alone := fun p _ => by cases p <;> exact .inl rfl
  exact ⟨shut, fun _ => rfl, fun f => absurd shut f⟩

/-- A site whose ports are both in FAULT, with hose 0 lifted. -/
def mute : State :=
  withB (fun x => { x with state := .fault, cause := some .stall })
    (withA (fun x => { x with state := .fault, cause := some .transmit }) (rests .lifted))

/-- ManualAuthoriseEvaluatesALiftedHose: a grant at a station that no port connects, and one at an isolated
station with a port that still sends. -/
theorem test_case_manual_authorise_cut_off :
    (mute.started = true ∧ (mute.hose 0).state = .lifted ∧ findVehicle 1204 mute = some truck) ∧
    (∀ p, ¬takesNotices mute p) ∧
    evaluate 0 1204 none mute
      = .grant 2 100000 { DispenseFlags.clear with manual := true, isolated := true } .ok ∧
    (cutOffFromSite alone ∧ ∃ p, takesNotices alone p) := by
  have shut : cutOffFromSite alone := fun p _ => by cases p <;> exact .inl rfl
  unfold takesNotices
  and_intros <;> first
    | decide
    | exact shut
    | exact ⟨.a, by decide⟩
    | (intro p; cases p <;> decide)

/-- ManualAuthoriseEvaluatesALiftedHose: CONFIG; no hose; no vehicle; a hose in IDLE; a refusal; a grant; a late volume
that leaks. -/
theorem test_case_manual_authorise :
    State.reset.started = false ∧ (on.started = true ∧ 3 < (4 : Byte).toNat) ∧ ¬vehicleNumber 0 ∧
    (vehicleNumber 1204 ∧ (on.hose 0).state ≠ .lifted) ∧
    (((rests .lifted).hose 0).state = .lifted ∧ findVehicle 1204 (rests .lifted) = some truck ∧
      findVehicle 7 (rests .lifted) = none) ∧
    (evaluate 0 1204 none (held (rests .lifted)) = .refuse .heldElsewhere 2 ∧ vehicleNumber 7) ∧
    ((∃ p, takesNotices (rests .lifted) p) ∧ evaluate 0 1204 none (rests .lifted)
      = .grant 2 100000 { DispenseFlags.clear with manual := true } .ok) ∧
    (∀ p, takesNotices (rests .lifted) p → 0 < freeUrgent (rests .lifted) p) ∧
    (let s := withA (fun x => { x with urgent := List.replicate 8 entry }) (rests .lifted);
      takesNotices s .a ∧ freeUrgent s .a = 0) ∧
    (let s := withMeter 0 { Meter.reset with lateActive := true, carried := 51 } (rests .lifted);
      (s.meter 0).lateActive = true ∧ leakSeen 0 s = true) := by
  unfold vehicleNumber takesNotices
  and_intros <;> first
    | decide
    | (intro p; cases p <;> decide)
    | exact ⟨.a, by decide⟩

/-- NozzleSwitchMovesAnIdleHose: each state group, the switch not yet known, an ISSUE owed and none. -/
theorem test_case_nozzle :
    (on.hose 0).switchKnown = false ∧ (on.started = true ∧ (on.hose 0).state = .idle) ∧
    ((rests .ended).hose 0).state ≠ .idle ∧
    (((rests .lifted).hose 0).state = .lifted ∧ ((rests .lifted).hose 0).timers.lift ≠ none) ∧
    ((sells .closing).hose 0).state = .closing ∧
    (((rests .ended).hose 0).state = .ended ∧ ((rests .ended).hose 0).pendingIssue = ⟨false, false⟩) ∧
    (let s := withHose 0 { hoseIn .refused with pendingIssue := ⟨true, false⟩ } on;
      (s.hose 0).state = .refused ∧ (s.hose 0).pendingIssue ≠ ⟨false, false⟩) := by
  decide

/-- QueueWaitEndsWithTheHoldOrLineBusy: both ports reserved; one lacking; the wait running. -/
theorem test_case_queue_wait :
    (let s := held (withHose 0 { (sells .holding).hose 0 with
        phase := .queueWait, waitPorts := ⟨true, true⟩, reserved := ⟨true, true⟩ } (sells .holding));
      holdReady 0 s ∧ (s.hose 0).waitPorts ≠ ⟨false, false⟩ ∧
        findHold s.ownNumber 0 s.holds = some ⟨5, 0, 1204, 0, 0, 40000, 7, 20⟩) ∧
    (let s := withHose 0 { (sells .holding).hose 0 with
        phase := .queueWait, waitPorts := ⟨true, true⟩, reserved := ⟨true, false⟩ } (sells .holding);
      ¬holdReady 0 s ∧ (s.hose 0).state = .holding ∧ (s.hose 0).timers.queueWait ≠ none ∧
        (s.hose 0).dispense = some sale ∧ (s.hose 0).lifted = true) := by
  unfold holdReady
  and_intros <;> first
    | decide
    | (intro p; cases p <;> decide)
    | exact fun f => absurd (f.2 .b rfl) (by decide)

/-- QueueWaitEndsWithTheHoldOrLineBusy: no port left to wait for, at a station that is not isolated and at one that
is. -/
theorem test_case_queue_wait_without_ports :
    let bare (s : State) : State := held (withHose 0 { (sells .holding).hose 0 with
      phase := .queueWait, waitPorts := ⟨false, false⟩ } s)
    (holdReady 0 (bare on) ∧ ((bare on).hose 0).waitPorts = ⟨false, false⟩ ∧
      findHold 5 0 (bare on).holds = some ⟨5, 0, 1204, 0, 0, 40000, 7, 20⟩ ∧ ¬cutOffFromSite (bare on)) ∧
    (holdReady 0 (bare mute) ∧ (bare mute).started = true ∧ cutOffFromSite (bare mute) ∧
      ((bare mute).hose 0).dispense = some sale) := by
  have shut : cutOffFromSite mute := fun p _ => by cases p <;> exact .inr rfl
  unfold holdReady
  and_intros <;> first
    | decide
    | exact shut
    | exact fun f => absurd (f .a rfl) (by decide)
    | (intro p; cases p <;> decide)

/-- SettleEndChecksTheCoil: a dispense on from RUNNING and one that closes at once. -/
theorem test_case_settle :
    ((sells .holding).hose 0).state = .holding ∧ ((sells .holding).hose 0).timers.settle ≠ none ∧
    ((sells .holding).hose 0).dispense = some sale ∧
    testedState HoseCfg.default 40000 39489 .running = .running ∧
    testedState HoseCfg.default 40000 39500 .running = .slowing ∧
    testedState HoseCfg.default 40000 39990 .running = .closing ∧ CoilSense.openCoil ≠ .good := by
  decide

/-- TimersAndHangUpEndADispense: each ending; TAG_LOST with the last hose in PAUSED, and with another in PAUSED. -/
theorem test_case_timers :
    (((sells .running).hose 0).state = .running ∧ ((sells .running).hose 0).timers.noFlow ≠ none) ∧
    (((sells .slowing).hose 0).state = .slowing ∧ ((sells .slowing).hose 0).timers.duration ≠ none) ∧
    (((sells .paused).hose 0).state = .paused ∧ ((sells .paused).hose 0).timers.tagReturn ≠ none) ∧
    (((sells .holding).hose 0).state = .holding ∧ ((sells .holding).hose 0).dispense = some sale) ∧
    (let s : State := { sells .paused with alert := .tagLost };
      s.alert = .tagLost ∧ (toClosing 0 .nozzle false s).alert = .none ∧
        (toClosing 0 .nozzle false (withHose 1 (hoseIn .paused) s)).alert = .tagLost) := by
  decide

/-- TagLossAndReaderFaultsAreReported. -/
theorem test_case_tag_loss :
    (let s := linked (fun x => { x with mode := .watch, line := .opened, watchTimer := some 1 }) (sells .slowing);
      (s.tag 0).mode = .watch ∧ (s.tag 0).watchTimer ≠ none ∧ (s.hose 0).state = .slowing ∧
        s.started = true ∧ (s.hoseCfg 0).fitted = true ∧ (s.tag 0).line = .opened) ∧
    (let s := linked (fun x => { x with mode := .watch, watchTimer := some 1 }) on;
      (s.tag 0).mode = .watch ∧ (s.tag 0).watchTimer ≠ none ∧ (s.hose 0).state ≠ .running ∧
        (s.hose 0).state ≠ .slowing) ∧
    (let s := linked (fun x => { x with mode := .seek, line := .opened }) (rests .lifted);
      (s.tag 0).mode = .seek ∧ (s.tag 0).line = .opened) ∧
    ((on.tag 0).line = .held ∧ (on.tag 0).mode ≠ .watch ∧ (on.tag 0).mode ≠ .seek) ∧
    (let s := linked (fun x => { x with line := .broken }) on;
      (s.tag 0).line = .broken) ∧
    (let s := linked (fun x => { x with line := .held, dataLow := true }) on;
      (s.tag 0).line ≠ .sending ∧ (s.tag 0).dataLow = true) ∧
    (let s := linked (fun x => { x with line := .opened }) on;
      (s.tag 0).line ≠ .broken ∧ (s.tag 0).dataLow = false) ∧ State.reset.started = false := by
  decide

/-- LampCommandsAreSentAndCompleted. -/
theorem test_case_lamp :
    (((sells .running).hose 0).timers.serviceLamp ≠ none ∧ ((sells .running).hose 0).state = .running) ∧
    (((rests .ended).hose 0).timers.serviceLamp ≠ none ∧ ((rests .ended).hose 0).state ≠ .running) ∧
    (let s := linked (fun x => { x with pendingLamp := some .red }) on;
      (s.tag 0).pendingLamp = some .red ∧ (s.tag 0).line = .held ∧ (s.tag 0).message = [] ∧
        (s.tag 0).buffer = none ∧ (s.tag 0).inFlight = none ∧ (s.hoseCfg 0).fitted = true) ∧
    ¬lampComing (on.tag 0) ∧
    (let s := linked (fun x => { x with inFlight := some .red, lampTimer := some 15 }) on;
      (s.tag 0).inFlight ≠ none ∧ (s.tag 0).lampTimer ≠ none) := by
  decide

/-- Hose 0 in CLOSING with an end reason, its nozzle lifted or hung up. -/
def closingSale (lifted : Bool) : State :=
  withHose 0 { (sells .closing).hose 0 with
    dispense := some { sale with endReason := some .nozzle }, lifted := lifted } (sells .closing)

/-- AfterFlowEndsTheDispense: the nozzle lifted; hung up with room on every port, and with a full queue. -/
theorem test_case_after_flow :
    (let s := closingSale true;
      (s.hose 0).state = .closing ∧ (s.hose 0).timers.afterFlow ≠ none ∧ (s.hose 0).lifted = true ∧
      (s.hose 0).dispense = some { sale with endReason := some .nozzle } ∧
      (s.hose 0).pendingIssue = ⟨false, false⟩ ∧ findVehicle sale.vehicle s = some truck) ∧
    (let s := closingSale false;
      (s.hose 0).state = .closing ∧ ¬((s.hose 0).lifted = true) ∧
      ∀ p, ¬(takesNotices s p ∧ freeRoutine s p = 0)) ∧
    (let s := withA (fun x => { x with routine := List.replicate 32 entry }) (closingSale false);
      takesNotices s .a ∧ freeRoutine s .a = 0) := by
  unfold takesNotices
  and_intros <;> first | decide | (intro p; cases p <;> decide)

/-- FreedEntryTakesAnOwedIssue: one port owed and two; the nozzle lifted and hung up. -/
theorem test_case_owed_issue :
    let owes (x : PortSet) (up : Bool) : State := withHose 1
      { hoseIn .ended with pendingIssue := x, issue := some entry.frame, lifted := up }
      (withA (fun y => { y with routine := List.replicate 31 entry }) on)
    (((owes ⟨true, false⟩ false).hose 1).pendingIssue.mem .a = true ∧
      (∀ k : HoseId, k < 1 → ((owes ⟨true, false⟩ false).hose k).pendingIssue.mem .a = false) ∧
      ((owes ⟨true, false⟩ false).hose 1).issue = some entry.frame ∧
      takesNotices (owes ⟨true, false⟩ false) .a ∧
      (owes ⟨true, false⟩ false).portA.routine.length < 32 ∧
      ((owes ⟨true, false⟩ false).hose 1).lifted = false ∧
      ((owes ⟨true, false⟩ false).hose 1).pendingIssue.put .a false = ⟨false, false⟩ ∧
      ((owes ⟨true, false⟩ false).hose 1).state = .ended) ∧
    (((owes ⟨true, true⟩ true).hose 1).pendingIssue.mem .a = true ∧
      ((owes ⟨true, true⟩ true).hose 1).lifted = true) := by
  unfold takesNotices
  decide

/-! #### Metering -/

/-- The meter unit of hose 0 changed. -/
def metered (f : Meter → Meter) (s : State) : State := withMeter 0 (f (s.meter 0)) s

/-- PhaseChangesAreCountedUpToTheLimit: CONFIG; a window at its limit; a saturated one. -/
theorem test_case_phase_change :
    State.reset.started = false ∧ (on.started = true ∧ (on.hoseCfg 0).fitted = true) ∧
    ((metered (fun m => { m with net := 32767 }) on).meter 0).saturated = false ∧
    ((metered (fun m => { m with saturated := true }) on).meter 0).saturated = true := by
  decide

/-- DispenseWindowComputesTheVolumes and DispenseWindowMovesTheHose: the states; the fourth error window; a
reverse total past its limit; neither. -/
theorem test_case_dispense_window :
    ((sells .running).started = true ∧ ((sells .running).hoseCfg 0).fitted = true ∧
      ((sells .running).hose 0).dispense = some sale ∧ dispensesIn .running ∧ dispensesIn .holding) ∧
    (raisedBy HoseCfg.default { Meter.reset with errorRun := 3, phaseError := true } = some .meterFault) ∧
    (raisedBy HoseCfg.default { Meter.reset with prevG := 201 } = some .meterReverse) ∧
    (raisedBy HoseCfg.default { Meter.reset with prevG := 200 } = none) ∧
    (raisesFault Meter.reset = false ∧ raisesReverse HoseCfg.default Meter.reset = false) := by
  unfold dispensesIn
  decide

/-- WindowsOutsideADispenseWatchForLeaks: CONFIG; a late-volume period and none. -/
theorem test_case_late_window :
    State.reset.started = false ∧
    (on.started = true ∧ (on.hoseCfg 0).fitted = true ∧ ¬dispensesIn (on.hose 0).state ∧
      (on.meter 0).lateActive = false) ∧
    ((metered (fun m => { m with lateActive := true, carried := 51 }) on).meter 0).lateActive = true := by
  unfold dispensesIn
  decide

/-! #### The console port -/

/-- The console changed. -/
def desk (f : Console → Console) (s : State) : State := { s with console := f s.console }

/-- ReadsReportTheirObjects: no hose; a bad, an unknown and a known vehicle; no group. -/
theorem test_case_reads :
    3 < (4 : Byte).toNat ∧ ¬vehicleNumber 65535 ∧ (vehicleNumber 7 ∧ findVehicle 7 on = none) ∧
    (vehicleNumber 1204 ∧ findVehicle 1204 on = some truck) ∧ 14 < (15 : Byte).toNat := by
  unfold vehicleNumber
  decide

/-- FetchEventTakesTheOldestEvent. -/
theorem test_case_fetch :
    on.console.events = [] ∧
    (let s := desk (fun k => { k with events := [⟨0, 0, .tagFault⟩], eventsLost := 65535 }) on;
      s.console.events = [⟨0, 0, .tagFault⟩] ∧ s.console.eventsLost ≠ 0) ∧ on.console.eventsLost = 0 := by
  decide

/-- AccessesReadTheResultAndTheStatus: a whole data read and a whole data write; a status read, an unknown access
byte and a data read cut short; an access byte cut short. -/
theorem test_case_accesses :
    (16 ≤ (bitsHigh 0x03 ++ bitsHigh 0xFF).length ∧
      (bitsHigh 0x03 ++ bitsHigh 0xFF).take 8 = bitsHigh 0x03) ∧
    (writeBits 0x25 ++ [true]).take 16 = writeBits 0x25 ∧
    (8 ≤ (bitsHigh 0x01).length ∧ (bitsHigh 0x07 ++ bitsHigh 0x02).take 8 ≠ bitsHigh 0x02 ∧
      (bitsHigh 0x07 ++ bitsHigh 0x02).take 8 ≠ bitsHigh 0x03) ∧
    (8 ≤ (bitsHigh 0x03 ++ [true]).length ∧ ¬16 ≤ (bitsHigh 0x03 ++ [true]).length) ∧
    ([true, false] : List Bool).length < 8 := by
  decide

/-- DataWriteCollectsAndRunsACommand and AccessesReadTheResultAndTheStatus: the three phases; a code without
parameters, with parameters and unknown; the last byte due and one before. -/
theorem test_case_console :
    (desk (fun k => { k with phase := .execution }) on).console.phase = .execution ∧
    (on.console.phase = .command ∧ on.console.command = none) ∧
    (paramBytes 0x00 = none ∧ paramBytes 0x14 = some 3 ∧ spells (Quad.all .good) 0x25 [] = some .fetchEvent) ∧
    (let s := desk (fun k => { k with command := some ⟨0x13, [1]⟩ }) on;
      s.console.command = some ⟨0x13, [1]⟩ ∧ paramBytes 0x13 = some 3 ∧ [(1 : Byte)].length + 1 < 3) ∧
    spells (Quad.all .good) 0x13 [1, 0, 40] = some (.setPreset 1 40) ∧
    (let s := desk (fun k => { k with phase := .result, result := [1, 2], readPos := 0 }) on;
      s.console.phase = .result ∧ s.console.readPos + 1 < s.console.result.length) ∧
    (let s := desk (fun k => { k with phase := .result, result := [1, 2], readPos := 1 }) on;
      s.console.phase = .result ∧ s.console.result.length ≤ s.console.readPos + 1) := by
  decide

/-! #### The tag links -/

/-- A link of hose 0 in OPEN, in a mode, that has taken two pages of vehicle 1204. -/
def trail (m : TagMode) (s : State) : State :=
  linked (fun x => { x with
    line := .opened, mode := m, accepted := some ⟨1204, 2⟩
    tracker := [⟨1204, 2, true⟩, ⟨1204, 2, false⟩] }) s

set_option maxRecDepth 8000 in
/-- IdentityPagesTrackAcceptAndReturnVehicles: a link that hears nothing; MANUAL; a repeat; WATCH; a run in SEEK at
a known vehicle, at one whose class is not settled and at a new one, with room and without; the same and another
vehicle in SEARCH. -/
theorem test_case_identity :
    let next : List TagEntry := [⟨1204, 2, true⟩, ⟨1204, 2, false⟩, ⟨1204, 2, true⟩]
    ¬hears 0 on ∧ (hears 0 (trail .manual on) ∧ ((trail .manual on).tag 0).message <+: identityBytes 1204 2 true ∧
      ¬tracks ((trail .manual on).tag 0).mode) ∧
    (hears 0 (trail .watch on) ∧ tracks ((trail .watch on).tag 0).mode ∧
      ((trail .watch on).tag 0).tracker.getLast? = some ⟨1204, 2, false⟩ ∧
      ((trail .watch on).tag 0).tracker.getLast? ≠ some ⟨1204, 2, true⟩) ∧
    (lastThree (((trail .seek (rests .lifted)).tag 0).tracker ++ [⟨1204, 2, true⟩]) = next ∧
      runOf ⟨1204, 2⟩ next ∧ ((trail .seek (rests .lifted)).hose 0).state = .lifted ∧
      findVehicle 1204 (trail .seek (rests .lifted)) = some truck ∧
      recordMet .tag 1204 (some 2) (trail .seek (rests .lifted)) truck ∧
      checkOne 1204 truck (trail .seek (rests .lifted)) (trail .seek (rests .lifted)) ∧
      evaluate 0 1204 (some 2) (trail .seek (rests .lifted)) = .grant 2 100000 DispenseFlags.clear .ok) ∧
    (let s := { trail .seek (rests .lifted) with vehicles := [unsettledTruck] };
      recordMet .tag 1204 (some 2) s truck ∧ checkOne 1204 truck s { s with vehicles := [truck] } ∧
      evaluate 0 1204 (some 2) { s with vehicles := [truck] } = .grant 2 100000 DispenseFlags.clear .ok) ∧
    (let s := { trail .seek (rests .lifted) with vehicles := [] };
      recordMet .tag 1204 (some 2) s truck ∧ checkOne 1204 truck s { s with vehicles := [truck] }) ∧
    (hears 0 (trail .seek mute) ∧ (∀ p, ¬takesNotices (trail .seek mute) p) ∧
      evaluate 0 1204 (some 2) (trail .seek mute)
        = .grant 2 100000 { DispenseFlags.clear with isolated := true } .ok) ∧
    (evaluate 0 1204 (some 2) (held (rests .lifted)) = .refuse .heldElsewhere 2) ∧
    (findVehicle 1204 { on with vehicles := crowd } = none ∧ 320 ≤ crowd.length) ∧
    (((trail .search (sells .paused)).hose 0).state = .paused ∧
      ((trail .search (sells .paused)).tag 0).accepted = some ⟨1204, 2⟩ ∧
      ((trail .search (sells .paused)).tag 0).accepted ≠ some ⟨1205, 2⟩ ∧
      ((trail .search (sells .paused)).hose 0).dispense = some sale) := by
  unfold hears tracks runOf takesNotices checkOne
  and_intros <;> first
    | decide
    | exact ⟨true, rfl⟩
    | (intro p; cases p <;> decide)
    | exact meets_a_settled_record rfl rfl
    | exact meets_an_unsettled_record (y := unsettledTruck) rfl rfl
    | exact meets_a_new_record rfl (by decide)
    | (refine keeps_a_table_of_one ?_ ?_ <;> decide)

/-- HoursPagesAreAdoptedOnce: one not adopted; one adopted; hours that rise at the jump limit, past it, and
not at all. -/
theorem test_case_hours :
    (hears 0 (trail .watch (sells .running)) ∧ ((trail .watch (sells .running)).tag 0).message = [] ∧
      (99999999 : Word).toNat ≤ 99999999) ∧
    (adoptable false ((trail .watch (sells .running)).tag 0) ∧
      ((trail .watch (sells .running)).hose 0).dispense = some sale ∧
      findVehicle 1204 (trail .watch (sells .running)) = some truck) ∧
    ((trail .watch (sells .running)).tag 0).tracker.getLast? ≠ some ⟨1204, 2, true⟩ ∧
    raisesHours 3000 { truck with latestHours := some 1000 } ∧
    { truck with latestHours := some 1000 }.pendingHours = none ∧ 1000 + 2000 < 3001 ∧
    ¬1000 + 2000 < 3000 := by
  unfold hears adoptable raisesHours
  and_intros <;> decide

/-- TagBytesAreCollectedOrDiscarded: a link that hears nothing; a byte of a discarded message, and one after a gap; one
that a gap parts from the message in progress; a good first byte; a bad one; no page type; a wrong check byte and a
page that is whole; the gap timer; an overrun. -/
theorem test_case_tag_bytes :
    let byte (x : Byte) (parity gap : Bool) : TagByte := ⟨false, dataLevels x, parity, true, gap⟩
    let lost := linked (fun x => { x with leftover := .bytes 5 }) (trail .seek on)
    ¬hears 0 on ∧
    (hears 0 lost ∧ (lost.tag 0).leftover ≠ .none ∧ (byte 0x31 false false).gapBefore = false ∧
      (byte 0x31 false true).gapBefore ≠ false) ∧
    (hears 0 (trail .seek on) ∧ ((trail .seek on).tag 0).leftover = .none ∧
      soundByte (byte 0x31 false false) ∧ pageOf [0x31] 6 ∧ [(0x31 : Byte)].length < 6) ∧
    ¬soundByte (byte 0x31 true false) ∧ (∀ n, ¬pageOf [0x33] n) ∧
    (pageOf [0x31, 0, 4, 0xB4, 2, 0x16] 6 ∧ messageValid [0x31, 0, 4, 0xB4, 2, 0x16] = false ∧
      wholePage [0x31, 0, 4, 0xB4, 2, 0x15]) ∧
    (let cut := linked (fun x => { x with message := [0x31], gapTimer := some 10 }) (trail .seek on);
      hears 0 cut ∧ (byte 0x31 false true).gapBefore = true ∧ (cut.tag 0).gapTimer ≠ none ∧
        (cut.tag 0).leftover = .none) ∧
    (on.tag 0).gapTimer = none ∧ (on.started = true ∧ (on.tag 0).line = .held) ∧
    ((trail .seek on).tag 0).line ≠ .held := by
  unfold hears pageOf
  and_intros <;> first
    | decide
    | exact .inl ⟨1204, 2, false, by decide⟩
    | (rintro n (⟨h, _⟩ | ⟨h, _⟩) <;> exact absurd h (by decide))

/-- What comes after a message discarded at its byte: at the first byte and at the last, at a byte that names no
page, and at a bad first byte. -/
theorem test_leftover_of_a_discarded_message :
    comingAfter [0x31] ⟨false, dataLevels 0, true, false, false⟩ = .bytes 4 ∧
    comingAfter [0x31, 0, 4, 0xB4, 2] (onTagLink 0x16 false) = .none ∧
    comingAfter [] (onTagLink 0x33 false) = .toGap ∧
    comingAfter [] ⟨true, dataLevels 0x31, false, true, false⟩ = .toGap ∧
    onePassed (.bytes 1) = .none ∧ onePassed (.bytes 5) = .bytes 4 ∧ onePassed .toGap = .toGap := by
  decide

/-- R187, R183: the bits of the page type 0x31 on a tag link, start bit first, and the byte that they spell. -/
theorem test_bits_of_a_tag_byte :
    tagBits (onTagLink 0x31 false)
      = [false, true, false, false, false, true, true, false, false, false, true] ∧
    tagData ⟨false, ⟨⟨true, false, false, false⟩, ⟨true, true, false, false⟩⟩, false, true, false⟩ = 0x31 := by
  decide

/-- R50, step 2: a byte after a gap discards the message in progress, counted once, and begins another. -/
theorem test_gap_before_a_byte :
    let s := linked (fun x => { x with message := [0x31, 0], gapTimer := some 10 }) (trail .seek on)
    (match execTagByteReceived 0 (onTagLink 0x32 true) s with
    | .next t => decide ((t.tag 0).message = [0x32] ∧ (t.hoseCounters.get 0).tagErrors = ⟨1, false⟩)
    | .fault _ | .refused _ => false) = true := by
  decide

/-- R60, R187: the bits of RED in SENDING, and none afterwards. -/
theorem test_lamp_bits :
    let s := sendLamp ((linked (fun x => { x with pendingLamp := some .red }) on).tag 0)
    s.lampBits = [false, true, true, false, false, false, false, false, false, true, true] ∧
    (endLamp s).lampBits = [] := by
  decide

/-- R49, R59: a lamp request holds an open line; the overrun that follows is counted once and holds it on (R51). -/
theorem test_lamp_request_holds_an_open_line :
    let s := requestLamp 0 .green (trail .seek on)
    let t := overrunLine 0 s
    ((trail .seek on).tag 0).line = .opened ∧ (s.tag 0).line = .held ∧ canSendLamp (s.tag 0) = true ∧
    (t.tag 0).line = .held ∧ (t.tag 0).dataLow = true ∧
    (t.hoseCounters.get 0).tagErrors = ⟨1, false⟩ ∧
    (lampEnded (sendLamp (t.tag 0))).line = .opened := by
  decide

/-! #### The yard ports -/

/-- FramesBeginAndLeaveTheirQueues: an urgent and a routine head; nothing to send; an ordinary frame and the
HOLD that a hose awaits. -/
theorem test_case_frames :
    (let s := withA (fun x => { x with urgent := [entry] }) on;
      transmits s.portA ∧ s.portA.sending = none ∧ s.portA.urgent = [entry]) ∧
    (let s := withB (fun x => { x with routine := [entry] }) on;
      transmits s.portB ∧ s.portB.cts = true ∧ s.portB.urgent = [] ∧ s.portB.routine = [entry]) ∧
    (on.portA.urgent = [] ∧ on.portA.routine = [] ∧ on.portA.sending = none) ∧
    (let s := withA (fun x => { x with sending := some ⟨false, entry⟩ }) on;
      s.portA.sending = some ⟨false, entry⟩ ∧ entry.hold = none) ∧
    (let s := withA (fun x => { x with sending := some ⟨true, { entry with hold := some (0, 7) }⟩ })
        (withHose 0 { (sells .holding).hose 0 with phase := .awaiting, waitPorts := ⟨true, false⟩ }
          (sells .holding));
      (s.hose 0).dispense = some sale ∧ (s.hose 0).phase = .awaiting ∧
        (s.hose 0).waitPorts.put .a false = ⟨false, false⟩ ∧ s.portA.state = .active) ∧
    (let s := withHose 0 { (sells .holding).hose 0 with phase := .awaiting, waitPorts := ⟨true, true⟩ } on;
      (s.hose 0).phase = .awaiting ∧ (s.hose 0).waitPorts.put .a false ≠ ⟨false, false⟩) ∧
    (alone.started = true ∧ cutOffFromSite alone ∧ transmits alone.portA) := by
  unfold transmits
  and_intros <;> first | decide | exact fun p _ => by cases p <;> exact .inl rfl

/-- FailuresTakeAPortToFault: the fifteenth and the sixteenth failure, in a frame and on a busy line; the stall
timer; neither. -/
theorem test_case_failures :
    let failing (n : Nat) (d : Option Sending) : State :=
      withA (fun x => { x with failCount := n, sending := d, routine := [entry] }) on
    ((failing 14 none).portA.failCount + 1 < 16 ∧ transmits (failing 14 none).portA ∧
      (failing 14 none).portA.sending = none ∧ (failing 14 none).portA.routine ≠ []) ∧
    (16 ≤ (failing 15 (some ⟨false, entry⟩)).portA.failCount + 1 ∧
      (failing 15 (some ⟨false, entry⟩)).portA.sending ≠ none) ∧
    on.portA.sending = none ∧ on.portB.stallTimer = none ∧
    (let s := withB (fun x => { x with stallTimer := some 1, cts := false }) on;
      s.portB.stallTimer ≠ none ∧ transmits s.portB) ∧ nothingWaits on := by
  unfold transmits nothingWaits
  decide

/-- FailuresTakeAPortToFault: what hoses do as port A goes to FAULT: in the queue wait, with an entry on port B and
without one; awaiting both ports, and port A alone at a station that port B connects and at one cut off; in the settle
window; hung up in ENDED owing port A alone. -/
theorem test_case_failures_hoses :
    let waits (x : HoldingPhase) (set got : PortSet) : Hose :=
      { (sells .holding).hose 0 with phase := x, waitPorts := set, reserved := got }
    let ready := waits .queueWait ⟨true, true⟩ ⟨true, true⟩
    (readyWithout .a ready ∧ ¬awaitsNone .a ready ∧
      findHold 5 0 (held on).holds = some ⟨5, 0, 1204, 0, 0, 40000, 7, 20⟩) ∧
    ¬readyWithout .a (waits .queueWait ⟨true, true⟩ ⟨true, false⟩) ∧
    ¬awaitsNone .a (waits .awaiting ⟨true, true⟩ ⟨false, false⟩) ∧
    awaitsNone .a (waits .awaiting ⟨true, false⟩ ⟨false, false⟩) ∧
    awaitsNone .a (waits .queueWait ⟨true, false⟩ ⟨false, false⟩) ∧
    (¬cutOffBy .a on ∧ cutOffBy .a (withB (fun x => { x with state := .silent }) on)) ∧
    (waits .settle ⟨false, false⟩ ⟨false, false⟩).state = .holding ∧
    leavesWithout .a { hoseIn .ended with pendingIssue := ⟨true, false⟩ } ∧
    (∀ h, (on.hose h).phase = .none ∨ (on.hose h).state = .holding) := by
  unfold awaitsNone cutOffBy
  and_intros <;> first
    | decide
    | exact fun f => absurd (f.2 .b (by decide) rfl) (by decide)
    | exact fun p _ _ => by cases p <;> first | contradiction | exact .inl rfl

/-- PortsRecoverStallAndFallSilent: among the recoveries, one that ends the isolation of a station and one that does
not. -/
theorem test_case_recoveries :
    (let s := withA (fun x => { x with state := .fault, cause := some .transmit, recoveryTimer := some 1 }) on;
      s.portA.recoveryTimer ≠ none ∧ s.portA.cause = some .transmit ∧ ¬endsIsolation .a s) ∧
    (let s := withA (fun x => { x with recoveryTimer := some 1 }) mute;
      s.portA.recoveryTimer ≠ none ∧ s.portA.cause = some .transmit ∧ endsIsolation .a s ∧ 0 < freeRoutine s .a) ∧
    on.portA.recoveryTimer = none ∧ on.portB.state ≠ .fault ∧
    (let s := withB (fun x => { x with state := .fault, cause := some .stall }) on;
      s.portB.state = .fault ∧ s.portB.cause = some .stall) ∧
    (on.portA.silenceTimer ≠ none ∧ on.portA.state = .active) ∧ alone.portA.state ≠ .active := by
  unfold endsIsolation
  and_intros <;> first
    | decide
    | exact fun f => absurd (f.1 .b rfl) (by decide)
    | exact fun p _ => by cases p <;> exact .inr rfl

set_option maxRecDepth 8000 in
/-- FramesReceivedEnterTheFifo: a good frame and a bad one on each port; a port in OFF; a frame of this station's
number; a line that waits for a gap; a frame that ends the isolation of its station. -/
theorem test_case_received :
    let f : Frame := ⟨1, 3, false, 3, [0, 42]⟩
    (on.portA.state ≠ .off ∧ on.portA.sending = none ∧ decodeA (encodeA f) = some f ∧ decodeA [] = none) ∧
    (on.portB.state ≠ .off ∧ on.portB.resync = false ∧ decodeB (onLineB (encodeB f)) = some f ∧
      decodeB [onLine 0 true] = none) ∧
    State.reset.portA.state = .off ∧ (on.portA.state = .active ∧ on.portA.cause = none) ∧
    ¬(f.origin = on.ownNumber ∧ f.relayed = false) ∧
    ({ f with origin := 5 }.origin = on.ownNumber ∧ { f with origin := 5 }.relayed = false) ∧
    (withB (fun x => { x with resync := true }) on).portB.resync = true ∧
    (alone.portA.state = .silent ∧ alone.portA.sending = none ∧ endsIsolation .a alone) := by
  unfold endsIsolation
  and_intros <;> first | decide | exact fun p _ => by cases p <;> exact .inl rfl

/-! #### Merging, holds and the walker -/

/-- FramesTakenAreRelayedAndSorted: no notice kind; a notice; another kind at the head; the relay options; a port
in FAULT. -/
theorem test_case_taken :
    heads .a (heard 8 []) [] (hearing 8 [] on) ∧ 8 ≤ (heard 8 []).kind.toNat ∧
    (heads .a (heard 7 []) [] (hearing 7 [] on) ∧ (heard 7 []).kind.toNat ≤ 7) ∧
    (heard 3 []).kind.toNat ≠ 1 ∧ relays on ∧ ¬relays State.reset ∧ transmits on.portB ∧
    (withB (fun x => { x with state := .fault }) on).portB.state = .fault := by
  unfold heads transmits
  and_intros <;> first
    | decide
    | (intro p; cases p <;> decide)
    | exact fun f => absurd (f .b).1 (by decide)

set_option maxRecDepth 8000 in
/-- RollcallShiftAndServiceMerge: each kind; a payload that is no notice; a full table; a record found and one
created. -/
theorem test_case_service_merge :
    (heads .a (heard 3 [0, 1]) [] (hearing 3 [0, 1] on) ∧ (heard 3 [0, 1]).kind = 3) ∧
    ((heard 2 []).kind = 2 ∧ (heard 2 []).origin ≠ on.ownNumber) ∧ readService [] = none ∧
    (readService (ServiceNotice.payload ⟨1204, 1, some 99999999⟩) = some ⟨1204, 1, some 99999999⟩ ∧
      findVehicle 1204 on = some truck) ∧
    noRoomFor 1204 { on with vehicles := crowd } ∧
    (findVehicle 7 on = none ∧ on.vehicles.length < 320) := by
  unfold heads noRoomFor
  decide

/-- HoldMergeWritesTheHoldAndTestsForTwo: a HOLD of another station at a station without, and with, an open
dispense for the vehicle, in issue, in CLOSING and in HOLDING; the lower and the higher pair. -/
theorem test_case_hold_merge :
    let n : HoldNotice := ⟨1204, 0, 9, 0, 0, 30000⟩
    let s := hearing 1 n.payload (held (sells .running))
    readHold n.payload = some n ∧ readHold [] = none ∧
    (heads .a (heard 1 n.payload) [] s ∧ (heard 1 n.payload).origin ≠ s.ownNumber ∧
      (heard 1 n.payload).origin < s.ownNumber) ∧
    (dispensesAt 0 1204 s ∧ findVehicle 1204 s = some truck ∧ (s.hose 0).state = .running) ∧
    (dispensesAt 0 1204 (held (sells .closing)) ∧ ((sells .closing).hose 0).state = .closing) ∧
    (let x := (sells .holding).hose 0;
      dispensesAt 0 1204 (held (sells .holding)) ∧ x.state = .holding ∧ x.dispense = some sale ∧
        x.pendingIssue = ⟨false, false⟩) ∧ on.ownNumber < 6 ∧
    (∀ e ∈ on.holds, e.station = on.ownNumber → e.vehicle = 1204 → ¬dispensesIn (on.hose e.hose).state) := by
  unfold heads dispensesAt dispensesIn
  and_intros <;> decide

set_option maxRecDepth 8000 in
/-- IssueMergeRaisesTheTablesAndReleasesTheHold: an ISSUE that releases a hold; one of another number; none. -/
theorem test_case_issue_merge :
    let n : IssueNotice := ⟨600, none, 1, 4, 0, 100, 0, 100, 0, 1, 100, none, 100⟩
    let s := hearing 5 n.payload (held on)
    readIssue n.payload = some n ∧ readIssue [] = none ∧ heads .a (heard 5 n.payload) [] s ∧
    (findHold 3 1 s.holds = some ⟨3, 1, 600, 0, 0, 20000, 4, 60⟩ ∧ (3 : Nat) ≠ s.ownNumber) ∧
    findHold 3 2 s.holds = none ∧ (findVehicle 600 s = none ∧ s.vehicles.length < 320) := by
  unfold heads
  decide

/-- StateMergeRaisesTheRecord: a part with entries and one without. -/
theorem test_case_state_merge :
    let n : StateNotice := ⟨1204, some 2, 1, 0, none, some 5, 0, [⟨3, 10, 20⟩]⟩
    readState n.payload = some n ∧ readState [] = none ∧
    heads .a (heard 7 n.payload) [] (hearing 7 n.payload on) ∧
    readState (StateNotice.payload { n with entries := [] }) = some { n with entries := [] } := by
  unfold heads
  decide

/-- StockMergeRaisesTheTank: a lower, the same and a higher period; a gauge that ranks above and one that does
not. -/
theorem test_case_stock_merge :
    let n : StockNotice := ⟨0, 1, none, some ⟨2, 3, 500⟩, 0, [⟨3, 10, 0⟩]⟩
    readStock n.payload = some n ∧ readStock [4] = none ∧
    heads .a (heard 6 n.payload) [] (hearing 6 n.payload on) ∧
    (0 < (on.tank 0).period ∧ (on.tank 0).period ≤ 1) ∧ ranksAbove ⟨2, 3, 500⟩ fullTank ∧
    ¬ranksAbove ⟨2, 3, 500⟩ { fullTank with gauge := some ⟨2, 3, 0, 0, 0⟩ } := by
  unfold heads ranksAbove
  and_intros <;> decide

/-- HoldsAreRefreshedAndExpire: an own entry of 20 s and a younger one; a peer's of 60 s; none. -/
theorem test_case_holds :
    let s := held (sells .running)
    (findHold s.ownNumber 0 s.holds = some ⟨5, 0, 1204, 0, 0, 40000, 7, 20⟩ ∧ s.started = true ∧
      dispensesIn (s.hose 0).state ∧ (s.hose 0).phase ≠ .queueWait) ∧
    findHold on.ownNumber 0 on.holds = none ∧
    (findHold 3 1 s.holds = some ⟨3, 1, 600, 0, 0, 20000, 4, 60⟩ ∧ (3 : Nat) ≠ s.ownNumber) ∧
    takesNotices s .a ∧ 0 < freeUrgent s .a ∧ State.reset.started = false := by
  unfold dispensesIn takesNotices
  decide

/-- WalkerAnnouncesRecordsAndTanks: no port; the seventeenth step; a record above the position; a wrap; no record;
room and none. -/
theorem test_case_walker :
    let worth : VehicleRecord := { truck with latestHours := some 1 }
    let walks (w : Walker) (l : List VehicleRecord) : State := { on with walker := w, vehicles := l }
    let w : Walker := ⟨none, 0, 0, some ⟨3, true⟩, some 125⟩
    ((walks w [worth]).started = true ∧ (walks w [worth]).walker.stepTimer ≠ none ∧
      walksOn (walks w [worth]) .a ∧ worthAnnouncing worth ∧ w.stepCount ≠ 16) ∧
    ¬walksOn State.reset .b ∧ { w with stepCount := 16 }.stepCount = 16 ∧
    (firstOf (abovePosition (walks w [worth])) (walks w [worth]) worth) ∧
    (¬abovePosition (walks { w with position := some 1204 } [worth]) worth) ∧
    ¬worthAnnouncing truck ∧ 8 + 1 ≤ freeRoutine on .a := by
  unfold firstOf walksOn worthAnnouncing abovePosition
  and_intros <;> first
    | decide
    | exact ⟨[], [], rfl, by decide, fun _ h => (by cases h), fun _ h => (by cases h)⟩

/-- StagesFollowTheEffectiveStock: an event that changes no stock; one that takes a tank to RESERVE, and to
CUTOFF with a hose that issues from it, with one in HOLDING on it and one at rest, and with hoses at rest alone; one that
names a tank in CUTOFF whose stock has come back. -/
theorem test_case_stages :
    (∀ k, sameStock k on on) ∧
    (let u := withTank 0 { fullTank with opening := 2999999 } on;
      derives none on u 0 ∧ (∀ j : TankId, j ≠ 0 → ¬derives none on u j) ∧
        deriveStage (u.tankCfg 0) .normal (effectiveStock u 0) = .reserve) ∧
    (let u := withTank 0 { fullTank with opening := 299999 } (sells .slowing);
      derives none on u 0 ∧ cutsIssue 0 (u.hoseCfg 0) (u.hose 0) ∧
        deriveStage (u.tankCfg 0) .normal (effectiveStock u 0) = .cutoff) ∧
    (let u := withTank 0 { fullTank with opening := 299999 } (sells .holding);
      endsHolding 0 (u.hoseCfg 0) (u.hose 0) ∧ (u.hose 0).dispense = some sale ∧
        (∀ j : HoseId, j ≠ 0 → ¬endsHolding 0 (u.hoseCfg j) (u.hose j)) ∧
        (u.hose 0).pendingIssue = ⟨false, false⟩ ∧ findVehicle sale.vehicle u = some truck ∧
        notReached 0 (u.hoseCfg 1) (u.hose 1) ∧
        deriveStage (u.tankCfg 0) .normal (effectiveStock u 0) = .cutoff) ∧
    (let u := withTank 0 { fullTank with opening := 299999 } on;
      (∀ h, notReached 0 (u.hoseCfg h) (u.hose h)) ∧
        deriveStage (u.tankCfg 0) .normal (effectiveStock u 0) = .cutoff) ∧
    (let u := staged .cutoff on;
      derives (some 0) on u 0 ∧ (∀ j : TankId, j ≠ 0 → ¬derives (some 0) on u j) ∧
        deriveStage (u.tankCfg 0) .cutoff (effectiveStock u 0) = .normal) := by
  unfold notReached
  and_intros <;> decide

/-- StagesFollowTheEffectiveStock: each input of R99 alone makes a tank derive: the opening, its pending mark, either
map, the gauge, and the S of a hose whose own hold entry names the tank; the age of an entry does not. -/
theorem test_stock_inputs :
    let s := held on
    let changed (x : Tank) : Prop := derives none s (withTank 0 x s) 0
    changed { fullTank with opening := 1 } ∧ changed { fullTank with openingPending := true } ∧
    changed { fullTank with issueMap := [(3, 1)] } ∧ changed { fullTank with deliveryMap := [(3, 1)] } ∧
    changed { fullTank with gauge := some ⟨1, 3, 0, 0, 0⟩ } ∧
    derives none s (withMeter 0 { Meter.reset with s := 1 } s) 0 ∧ derives none s on 0 ∧
    ¬derives none s { s with holds := s.holds.map fun e => { e with age := 0 } } 0 := by
  and_intros <;> decide

/-- NoticesReadBackAsTheyWereBuilt: a shift at its bound. -/
theorem test_case_shift_notices :
    { on with sigma := 65535 }.sigma ≤ 65535 ∧
    carriedShift (shiftFrame { on with sigma := 65535 }) = 65535 := by
  decide

/-- NoticesReadBackAsTheyWereBuilt: for each range of R150 a payload beside its bound, for each reader one that it
reads, a payload cut short, whose missing bytes are 0, and entries cut off, which read as all zero. -/
theorem test_case_payloads :
    readHold [0, 0, 0] = none ∧ readHold [255, 255, 0] = none ∧ readHold [0, 1, 4] = none ∧
    readHold [0, 1, 3, 9, 0, 0, 4] = none ∧ readHold [0, 1, 3, 9] = some ⟨1, 3, 9, 0, 0, 0⟩ ∧
    readService [0, 1, 1] = none ∧ readService [0, 1, 2, 0, 1, 5, 245, 225, 0] = none ∧
    readService [0, 1, 2, 0, 1, 5, 245, 224, 255] = some ⟨1, 1, some 99999999⟩ ∧
    readIssue [0, 1, 1, 8] = none ∧ readIssue ([0, 1] ++ List.replicate 25 0 ++ [1]) = none ∧
    readIssue [0, 1, 1, 7] = some ⟨1, some 7, 0, 0, 0, 0, 0, 0, 0, 0, 0, none, 0⟩ ∧
    readState [0, 1, 8] = none ∧ readState [0, 1, 0, 0, 0, 0, 0, 3] = none ∧
    readState [0, 1, 0, 0, 0, 0, 0, 0, 1] = none ∧ readState [0, 1, 4, 0, 0, 0, 0, 0, 0, 0, 0, 1] = none ∧
    readState [0, 1, 0, 0, 0, 0, 0, 0, 1, 16] = none ∧
    readState [0, 1, 0, 0, 0, 0, 0, 0, 1, 16, 0, 0, 0, 0, 0, 0, 0] = none ∧
    readState [0, 1, 0, 0, 0, 0, 0, 0, 1, 16, 0, 0, 0, 5, 0, 0, 0, 6]
      = some ⟨1, none, 0, 0, none, none, 0, [⟨16, 5, 6⟩]⟩ ∧
    readStock [0, 0, 0, 0, 0, 1, 16, 0, 0, 0, 5, 0, 0, 0] = none ∧
    readStock [0, 0, 0, 16, 0, 0, 1] = none ∧ readStock [0, 0, 0, 16, 0, 1, 17] = none ∧
    readStock [3] = some ⟨3, 0, none, none, 0, []⟩ := by
  and_intros <;> decide

set_option maxRecDepth 8000 in
/-- FramesReadBackAsTheyWereSent: a frame with one bit of its check wrong, and one whose unused header bits are
set. -/
theorem test_case_wrong_check :
    let f : Frame := ⟨1, 3, false, 3, []⟩
    checkOf (checkedBits f) ^^^ 1 ≠ checkOf (checkedBits f) ∧
    decodeA (frameBits f (checkOf (checkedBits f) ^^^ 1)) = none ∧
    beginsWith (frameBytes 0x72 0x73 [] (checkB 0x72 f)) (onLineB (frameBytes 0x72 0x73 [] (checkB 0x72 f))) ∧
    (0x72 : Byte).extractLsb' 6 2 = f.priority ∧
    decodeB (onLineB (frameBytes 0x72 0x73 [] (checkB 0x72 f))) = some f := by
  unfold beginsWith
  decide

/-- ComponentMapsMergeByMaximum, FramesReadBackAsTheyWereSent and NoticesReadBackAsTheyWereBuilt. -/
theorem test_case_codes :
    CompMap.wf [(1, 5), (16, 4294967295)] = true ∧
    (1 ≤ (heard 3 []).origin ∧ (heard 3 []).origin ≤ 16 ∧ (List.replicate 64 (0 : Byte)).length ≤ 64) ∧
    (noticeVehicle 65534 ∧ hoursFit (some 99999999) ∧ entriesFit 0 [⟨1, 0, 4294967295⟩] ∧
      entriesFit 2 [⟨16, 0, 0⟩]) := by
  unfold noticeVehicle hoursFit entriesFit
  and_intros <;> decide

/-- The invariants hold of the state after reset, and of a station in RUNNING with a hose that issues. -/
theorem test_case_invariants :
    outputsFollow (sells .running) ∧ eventsBounded (sells .running) ∧ interruptFollows (sells .running) ∧
    fifosBounded (sells .running) ∧ tableOrdered (sells .running) ∧ shiftsBelow (sells .running) ∧
    holdListOrdered (held (sells .running)) ∧ idleDisabled (sells .running) ∧
    dispensesFollow (sells .running) ∧ cutoffStops (sells .running) ∧ portsFollow (sells .running) ∧
    silentPortsEmpty (sells .running) ∧ tagLinesFollow (sells .running) ∧
    tagLinesFollow (requestLamp 0 .green (trail .seek on)) ∧ step (sells .running) = .next (sells .running) := by
  unfold outputsFollow eventsBounded interruptFollows fifosBounded tableOrdered shiftsBelow holdListOrdered
    idleDisabled dispensesFollow cutoffStops portsFollow silentPortsEmpty tagLinesFollow
  and_intros <;> first | decide | rfl | (intro p; cases p <;> decide)

end Sys2Proof.Tests
end

section
/-!
PROOFS. The meter units (R30 to R45): how the decoder and the stages of a dispense window read in the words of the
statements, what a window's report can move, and the statements settled with them.
-/

namespace Sys2Proof.Machine

/-! ### The quadrature decoder (R31, R33) -/

theorem phaseOf_eq_channelPhase (a b : Bool) : phaseOf a b = channelPhase a b := by
  cases a <;> cases b <;> rfl

theorem netStep_eq_netChange (old new : MeterPhase) : netStep old new = netChange old new := by
  cases old <;> cases new <;> rfl

theorem aRises_toNat (old new : MeterPhase) : (aRises old new).toNat = riseCount old new := by
  cases old <;> cases new <;> rfl

theorem bothChange_eq_opposite (old new : MeterPhase) : bothChange old new = opposite old new := by
  cases old <;> cases new <;> rfl

/-- R33: a saturated window counts no more. -/
theorem stepDecoder_of_saturated (new : MeterPhase) (m : Meter) (hs : m.saturated = true) :
    stepDecoder new m =
      { m with phase := new, phaseError := m.phaseError || opposite m.phase new } := by
  simp only [stepDecoder, hs, if_true, bothChange_eq_opposite]

/-- R31, R33: a window that is not saturated counts the change; a count that would pass its limit is held and
saturates the window. -/
theorem stepDecoder_of_not_saturated (new : MeterPhase) (m : Meter) (hs : m.saturated = false) :
    stepDecoder new m =
      { m with
        phase := new, phaseError := m.phaseError || opposite m.phase new
        net := if 32767 < (m.net + netChange m.phase new).natAbs then m.net
          else m.net + netChange m.phase new
        aRise := if 32767 < m.aRise + riseCount m.phase new then m.aRise
          else m.aRise + riseCount m.phase new
        saturated := decide (32767 < (m.net + netChange m.phase new).natAbs
          ∨ 32767 < m.aRise + riseCount m.phase new) } := by
  simp only [stepDecoder, hs, Bool.false_eq_true, if_false, saturates, windowLimit, netStep_eq_netChange,
    aRises_toNat, bothChange_eq_opposite, Bool.decide_or]

/-- R31: the phase-error window counter raised by a change of the channels, once for the window. -/
def phaseErrorCounted (h : HoseId) (new : MeterPhase) (s : State) : State :=
  if opposite (s.meter h).phase new && !(s.meter h).phaseError then
    s.modHoseCounters h fun k => { k with phaseErrors := k.phaseErrors.add 1 }
  else s

theorem fittedRunning_eq_false_iff (s : State) (h : HoseId) :
    s.fittedRunning h = false ↔ s.started = false ∨ (s.hoseCfg h).fitted = false := by
  simp only [State.fittedRunning, Bool.and_eq_false_iff]

theorem fittedRunning_of (s : State) (h : HoseId) (hs : s.started = true)
    (hf : (s.hoseCfg h).fitted = true) : s.fittedRunning h = true := by
  simp only [State.fittedRunning, hs, hf, Bool.and_self]

theorem exec_phaseChange (h : HoseId) (a b : Bool) (s : State) :
    exec (.phaseChange h a b) s = execPhaseChange h a b s := rfl

/-- R30: in CONFIG and on a hose that is not fitted the decoder only follows its inputs. -/
theorem exec_phaseChange_idle (h : HoseId) (a b : Bool) (s : State)
    (hidle : s.fittedRunning h = false) :
    exec (.phaseChange h a b) s =
      .next (withMeter h { s.meter h with phase := channelPhase a b } s) := by
  simp only [exec_phaseChange, execPhaseChange, hidle, phaseOf_eq_channelPhase]
  rfl

/-- R31: on a hose that runs the decoder counts the change, and a phase error its window. -/
theorem exec_phaseChange_running (h : HoseId) (a b : Bool) (s : State)
    (hrun : s.fittedRunning h = true) :
    exec (.phaseChange h a b) s =
      .next (withMeter h (stepDecoder (channelPhase a b) (s.meter h))
        (phaseErrorCounted h (channelPhase a b) s)) := by
  simp only [exec_phaseChange, execPhaseChange, hrun, if_true, phaseOf_eq_channelPhase, countsPhaseError,
    bothChange_eq_opposite, phaseErrorCounted]
  split <;> rfl

/-- Settles O28: the decoder's step is read off `stepDecoder` in a saturated window and in one that is not, and the
counter off `phaseErrorCounted`. -/
theorem phaseChangesAreCountedUpToTheLimit : Obligations.PhaseChangesAreCountedUpToTheLimit := by
  intro h a b s
  refine ⟨fun hidle => ?_, fun hs hf => ⟨fun hsat => ?_, fun hsat => ?_⟩⟩
  · exact exec_phaseChange_idle h a b s ((fittedRunning_eq_false_iff s h).2 hidle)
  · rw [exec_phaseChange_running h a b s (fittedRunning_of s h hs hf), stepDecoder_of_saturated _ _ hsat]
    rfl
  · rw [exec_phaseChange_running h a b s (fittedRunning_of s h hs hf),
      stepDecoder_of_not_saturated _ _ hsat]
    rfl

/-! ### The stages of a dispense window (R32 to R42) -/

/-- R36, R37, R38: C, G, previous G and the reverse total. -/
theorem creditWindow_eq (c : HoseCfg) (m : Meter) :
    creditWindow c m =
      { m with
        c := (creditSum c m).toNat, g := (creditSum c m).toNat / c.kh
        prevG := (creditSum c m).toNat / c.kh, reverseTotal := reverseAfter c m } := rfl

theorem validSample_iff (x : Int) : validSample x = true ↔ -200 ≤ x ∧ x ≤ 700 := by
  simp only [validSample, Bool.and_eq_true, decide_eq_true_eq]
  rfl

/-- R39, R40: the temperature hold and the T10 of the window. -/
theorem takeSample_eq (x : Int) (m : Meter) :
    takeSample x m =
      { m with
        held := if -200 ≤ x ∧ x ≤ 700 then some x else m.held
        invalidRun := invalidAfter x m, fallback := fallbackAfter x m
        t10 := some (windowTemp x m) } := by
  by_cases hv : -200 ≤ x ∧ x ≤ 700
  · simp only [takeSample, (validSample_iff x).2 hv, invalidAfter, fallbackAfter, windowTemp, if_pos hv, if_true]
  · have hn : ¬validSample x = true := fun e => hv ((validSample_iff x).1 e)
    simp only [takeSample, if_neg hn, invalidAfter, fallbackAfter, windowTemp, if_neg hv]
    rfl

theorem roundTenth_eq (x : Int) : roundTenth x = x.sign * ((x.natAbs + 5) / 10 : Nat) := by
  rcases Int.lt_trichotomy x 0 with hx | rfl | hx
  · rw [roundTenth, if_neg (Int.not_le.2 hx), Int.sign_eq_neg_one_of_neg hx, Int.neg_one_mul]
  · rfl
  · rw [roundTenth, if_pos (Int.le_of_lt hx), Int.sign_eq_one_of_pos hx, Int.one_mul]

/-- R41. -/
theorem factor_eq_factorOf (alpha : Nat) (t : Int) : factor alpha t = factorOf alpha t := by
  simp only [factor, factorOf, roundTenth_eq]

/-- R32 to R42: the unit after a dispense window. -/
theorem dispenseWindow_eq (c : HoseCfg) (alpha : Nat) (sample : Int) (m : Meter) :
    dispenseWindow c alpha sample m =
      { m with
        net := 0, aRise := 0, phaseError := false, saturated := false, windowTimer := some 250
        c := (creditSum c m).toNat, g := (creditSum c m).toNat / c.kh
        prevG := (creditSum c m).toNat / c.kh, reverseTotal := reverseAfter c m
        held := if -200 ≤ sample ∧ sample ≤ 700 then some sample else m.held
        invalidRun := invalidAfter sample m, fallback := fallbackAfter sample m
        t10 := some (windowTemp sample m), acc := accAfter c alpha sample m
        s := standardAfter c alpha sample m, errorRun := errorRunAfter m
        faultReported := m.faultReported || decide (errorRunAfter m = 4)
        reverseReported := m.reverseReported || decide (200 < reverseAfter c m) } := by
  simp only [dispenseWindow, creditWindow_eq, takeSample_eq, compensate, factor_eq_factorOf]
  rfl

/-! ### The report of a window (R43) -/

/-- R36: what the clamp of C discards is reported in cL. -/
theorem windowReport_reverseDiscarded (c : HoseCfg) (alpha : Nat) (sample : Int) (m : Meter) :
    (windowReport c alpha sample m).reverseDiscarded = (-creditSum c m).toNat / c.kh := rfl

/-- A mark that a window sets or finds set is new exactly when the window sets it first. -/
theorem newly_marked (was now : Bool) : ((was || now) && !was) = (!was && now) := by
  cases was <;> cases now <;> rfl

theorem windowReport_fault (c : HoseCfg) (alpha : Nat) (sample : Int) (m : Meter) :
    (windowReport c alpha sample m).fault = raisesFault m := by
  simp only [windowReport, dispenseWindow_eq, newly_marked, raisesFault]

theorem windowReport_reverse (c : HoseCfg) (alpha : Nat) (sample : Int) (m : Meter) :
    (windowReport c alpha sample m).reverse = raisesReverse c m := by
  simp only [windowReport, dispenseWindow_eq, newly_marked, raisesReverse]

theorem windowReport_meterWarn (c : HoseCfg) (alpha : Nat) (sample : Int) (m : Meter) :
    (windowReport c alpha sample m).meterWarn = (m.phaseError || m.saturated) := rfl

theorem windowReport_uncompensated (c : HoseCfg) (alpha : Nat) (sample : Int) (m : Meter) :
    (windowReport c alpha sample m).uncompensated = fallbackAfter sample m := by
  simp only [windowReport, dispenseWindow_eq]

theorem reportedFault_windowReport (c : HoseCfg) (alpha : Nat) (sample : Int) (m : Meter) :
    reportedFault (windowReport c alpha sample m) = raisedBy c m := by
  simp only [reportedFault, windowReport_fault, windowReport_reverse, raisedBy]

/-! ### Events that reach one hose, its tag link, the console port and the alert alone -/

theorem onlyHose_refl (h : HoseId) (s : State) : onlyHose h s s := ⟨fun _ _ => ⟨rfl, rfl⟩, rfl⟩

theorem onlyHose_trans {h : HoseId} {s t u : State} (a : onlyHose h s t) (b : onlyHose h t u) :
    onlyHose h s u := by
  obtain ⟨hst, est⟩ := a
  obtain ⟨htu, etu⟩ := b
  refine ⟨fun k hk => ⟨(htu k hk).1.trans (hst k hk).1, (htu k hk).2.trans (hst k hk).2⟩, ?_⟩
  rw [← etu] at est
  exact est

theorem onlyHose_modHose (h : HoseId) (f : Hose → Hose) (s : State) : onlyHose h s (s.modHose h f) :=
  ⟨fun _ hk => ⟨Quad.get_set_ne _ _ _ _ hk, rfl⟩, rfl⟩

theorem onlyHose_modTag (h : HoseId) (f : TagLink → TagLink) (s : State) : onlyHose h s (s.modTag h f) :=
  ⟨fun _ hk => ⟨rfl, Quad.get_set_ne _ _ _ _ hk⟩, rfl⟩

theorem onlyHose_post (h : HoseId) (n : Nat) (d : EventDetail) (s : State) : onlyHose h s (post n d s) := by
  unfold post
  split <;> exact ⟨fun _ _ => ⟨rfl, rfl⟩, rfl⟩

theorem onlyHose_alertAfterMove (h : HoseId) (s : State) : onlyHose h s (alertAfterMove s) := by
  unfold alertAfterMove
  split <;> exact ⟨fun _ _ => ⟨rfl, rfl⟩, rfl⟩

theorem onlyHose_requestLampOpt (h : HoseId) (l : Option Lamp) (s : State) :
    onlyHose h s (requestLampOpt h l s) := by
  cases l with
  | none => exact onlyHose_refl h s
  | some x => exact onlyHose_modTag h (pendLamp x) s

/-- R3, R4, R48: a move of a hose. -/
theorem onlyHose_enterHose (h : HoseId) (new : HoseState) (lamp : Option Lamp) (s : State) :
    onlyHose h s (enterHose h new lamp s) :=
  onlyHose_trans (onlyHose_modHose h _ s) <|
    onlyHose_trans (onlyHose_post h _ _ _) <|
      onlyHose_trans (onlyHose_requestLampOpt h lamp _) <|
        onlyHose_trans (onlyHose_modTag h _ _) (onlyHose_alertAfterMove h _)

theorem onlyHose_toClosing (h : HoseId) (r : EndReason) (fault : Bool) (s : State) :
    onlyHose h s (toClosing h r fault s) :=
  onlyHose_trans (onlyHose_modHose h _ s) (onlyHose_enterHose h _ _ _)

/-- R12: the tests move the hose or leave the station as it is. -/
theorem onlyHose_closeTests (h : HoseId) (s : State) : onlyHose h s (closeTests h s) := by
  cases hd : (s.hose h).dispense with
  | none => simp only [closeTests, hd]; exact onlyHose_refl h s
  | some d =>
    simp only [closeTests, hd]
    cases (s.hose h).state
    case running =>
      dsimp only
      split
      · exact onlyHose_toClosing h _ _ s
      · split
        · exact onlyHose_enterHose h _ _ s
        · exact onlyHose_refl h s
    case slowing =>
      dsimp only
      split
      · exact onlyHose_toClosing h _ _ s
      · exact onlyHose_refl h s
    all_goals exact onlyHose_refl h s

/-- R15: an ending outside HOLDING moves the hose or marks it; end processing waits for the after-flow. -/
theorem onlyHose_endDispense (h : HoseId) (r : EndReason) (fault : Bool) (s : State)
    (hh : (s.hose h).state ≠ .holding) : onlyHose h s (endDispense h r fault s) := by
  simp only [endDispense]
  cases hx : (s.hose h).state
  case holding => exact absurd hx hh
  case running | slowing | paused => exact onlyHose_toClosing h r fault s
  case closing =>
    dsimp only
    split
    · exact onlyHose_modHose h _ s
    · exact onlyHose_refl h s
  all_goals exact onlyHose_refl h s

/-- R43: a report without a fault in HOLDING reaches the hose alone. -/
theorem onlyHose_takeReport (h : HoseId) (r : WindowReport) (s : State)
    (hh : (s.hose h).state = .holding → reportedFault r = none) : onlyHose h s (takeReport h r s) := by
  cases hr : reportedFault r with
  | some e =>
    have hstate : (s.hose h).state ≠ .holding := fun c => Option.some_ne_none e (hr.symm.trans (hh c))
    simp only [takeReport, hr]
    exact onlyHose_endDispense h e true s hstate
  | none =>
    simp only [takeReport, hr]
    cases (s.hose h).state
    case running | slowing =>
      dsimp only
      split
      · exact onlyHose_trans (onlyHose_modHose h _ s) (onlyHose_closeTests h _)
      · exact onlyHose_closeTests h s
    all_goals exact onlyHose_refl h s

theorem meters_of_onlyHose {h : HoseId} {s t : State} (a : onlyHose h s t) : t.meters = s.meters := by
  obtain ⟨_, hframe⟩ := a
  rw [← hframe]

theorem hoseCounters_of_onlyHose {h : HoseId} {s t : State} (a : onlyHose h s t) :
    t.hoseCounters = s.hoseCounters := by
  obtain ⟨_, hframe⟩ := a
  rw [← hframe]

/-! ### A dispense window (R30, R43) -/

theorem dispensing_iff (x : HoseState) : x.dispensing = true ↔ dispensesIn x := by
  unfold dispensesIn
  cases x <;> decide

/-- R32 to R42: the station with the window dealt with at the meter unit, before its report is taken. -/
def windowMetered (h : HoseId) (sample : Int) (s : State) : State :=
  (s.modMeter h (dispenseWindow (s.hoseCfg h) (alphaOf s h) sample)).modHoseCounters h fun k =>
    { k with reverseDiscarded :=
        k.reverseDiscarded.add ((-creditSum (s.hoseCfg h) (s.meter h)).toNat / (s.hoseCfg h).kh) }

/-- R43: the report is taken with the window metered and its flags put on the dispense. -/
theorem dispenseWindowEnd_eq (h : HoseId) (sample : Int) (s : State) :
    dispenseWindowEnd h sample s =
      takeReport h (windowReport (s.hoseCfg h) (alphaOf s h) sample (s.meter h))
        (modDispense h (fun d => { d with flags := flagsAfter sample (s.meter h) d.flags })
          (windowMetered h sample s)) := by
  simp only [dispenseWindowEnd, windowReport_reverseDiscarded, windowReport_meterWarn,
    windowReport_uncompensated, ← Bool.or_assoc]
  rfl

theorem exec_flowWindowEnd (h : HoseId) (sample : Int) (s : State) :
    exec (.flowWindowEnd h sample) s = execFlowWindowEnd h sample s := rfl

/-- R30: a window end of a hose with a dispense open. -/
theorem exec_flowWindowEnd_dispensing (h : HoseId) (sample : Int) (s : State)
    (hrun : s.fittedRunning h = true) (hd : dispensesIn (s.hose h).state) :
    exec (.flowWindowEnd h sample) s = .next (settleTanks none s (dispenseWindowEnd h sample s)) := by
  simp only [exec_flowWindowEnd, execFlowWindowEnd, hrun, windowEnd, (dispensing_iff _).2 hd, if_true]

/-- R43: past the meter unit, a window that raises no fault in HOLDING reaches the hose alone. -/
theorem onlyHose_dispenseWindowEnd (h : HoseId) (sample : Int) (s : State)
    (hh : (s.hose h).state = .holding → raisedBy (s.hoseCfg h) (s.meter h) = none) :
    onlyHose h (windowMetered h sample s) (dispenseWindowEnd h sample s) := by
  rw [dispenseWindowEnd_eq]
  refine onlyHose_trans (onlyHose_modHose h _ _) (onlyHose_takeReport h _ _ fun hx => ?_)
  rw [reportedFault_windowReport]
  refine hh ?_
  simpa only [modDispense, windowMetered, State.hose, State.modHose_hoses, Quad.get_set_same,
    State.modHoseCounters_hoses, State.modMeter_hoses] using hx

theorem raisedBy_eq_none (c : HoseCfg) (m : Meter) (hf : raisesFault m = false)
    (hr : raisesReverse c m = false) : raisedBy c m = none := by
  simp only [raisedBy, hf, hr, Bool.false_eq_true, if_false]

/-- Settles O29: the meter unit and the counter are written by `windowMetered`, and the report that follows reaches
the hose, its tag link, the console port and the alert alone. -/
theorem dispenseWindowComputesTheVolumes : Obligations.DispenseWindowComputesTheVolumes := by
  intro h sample s hs hf hd m c alpha k hquiet
  have hrun := fittedRunning_of s h hs hf
  have honly := onlyHose_dispenseWindowEnd h sample s fun hx =>
    raisedBy_eq_none c m (hquiet hx).1 (hquiet hx).2
  have hmeters := meters_of_onlyHose honly
  have hcounters := hoseCounters_of_onlyHose honly
  obtain ⟨hothers, hframe⟩ := honly
  refine ⟨dispenseWindowEnd h sample s, exec_flowWindowEnd_dispensing h sample s hrun hd, ?_, ?_, ?_, ?_⟩
  · rw [State.meter, hmeters, ← dispenseWindow_eq]
    exact Quad.get_set_same _ _ _
  · rw [hcounters]
    exact Quad.get_set_same _ _ _
  · intro j hj
    refine ⟨(hothers j hj).1, ?_, ?_⟩
    · rw [State.meter, hmeters]
      exact Quad.get_set_ne _ _ _ _ hj
    · rw [hcounters]
      exact Quad.get_set_ne _ _ _ _ hj
  · exact congrArg (fun x : State =>
      { x with meters := s.meters, hoseCounters := s.hoseCounters }) hframe

end Sys2Proof.Machine
end
